-- ==== Sys2Proof/Word.lean ====
section
/-! DEFINITION. The words of the block: bytes of the two streams, 16-bit and 32-bit registers (00_scope.md R7). -/

namespace Sys2Proof

/-- One byte of the RX or TX stream, or of a packet buffer (20_memory.md R40). -/
abbrev Byte := BitVec 8

/-- A 16-bit register or wire value (00_scope.md R7, 30_encoding.md R62). -/
abbrev Half := BitVec 16

/-- A 32-bit counter or accumulator cell (00_scope.md R7). -/
abbrev Word := BitVec 32

/-- An 8×8 grid, held row by row: cell `[r][c]` stands at position `8 * r + c` (00_scope.md section 5). -/
abbrev Grid (α : Type) := Vector α 64

end Sys2Proof
end

