-- ==== Sys2Proof/Config.lean ====
section
/-! DEFINITION. What is fixed for the block: the source's structural constants (00_scope.md R5), the widths the spec
chose (R7), and the three OPEN parameters (R6) as opaque constants, of which nothing in Lean can know the value. -/

namespace Sys2Proof

/-- The three open parameters of 00_scope.md R6, 8 bits each. They are arguments of the model, not state (10_state.md
R35). MARK: DESIGN CHOICE (log 1), safe: no value is assumed. -/
structure Params where
  /-- `MARKER`: the value of each of the three marker bytes. -/
  marker : Byte
  /-- `START_CMD`: the control byte that starts streaming. -/
  startCmd : Byte
  /-- `STOP_CMD`: the control byte that stops streaming. -/
  stopCmd : Byte
  deriving DecidableEq, Repr

/-- The only constraint the source puts on the parameters: `START_CMD != STOP_CMD` (00_scope.md R6). -/
abbrev Params.legal (p : Params) : Prop := p.startCmd ≠ p.stopCmd

namespace Config

/-- `PACKET_WIDTH` (R5): bytes of one wire packet, and the synchronizer's window. -/
def packetWidth : Nat := 134

/-- `MARKER_LEN` (R5). -/
def markerLen : Nat := 3

/-- `THERM_LEN` (R5). -/
def thermLen : Nat := 2

/-- `ARRAY_LEN` (R5). -/
def arrayLen : Nat := 128

/-- `CSUM_LEN` (R5). -/
def csumLen : Nat := 1

/-- `DATA_LEN` (R5): the bytes the checksum covers. -/
def dataLen : Nat := thermLen + arrayLen

/-- `CELLS` (R5): values in one frame. -/
def cells : Nat := 64

/-- `TRIG_SLOTS` (R7): entries of the trigger set. -/
def trigSlots : Nat := 8

/-- `MARKER` of this block: open (R6, D2). MARK: DESIGN CHOICE (log 1), an uninterpreted constant, safe. -/
opaque marker : Byte

/-- `START_CMD` of this block: open (R6, D2). MARK: DESIGN CHOICE (log 1), an uninterpreted constant, safe. -/
opaque startCmd : Byte

/-- How far `STOP_CMD` lies above `START_CMD` modulo 256, less one: open. Every value of `STOP_CMD` other than
`START_CMD` is reached by exactly one gap, so `START_CMD != STOP_CMD` (R6) and nothing else is assumed.
MARK: DESIGN CHOICE (log 1), an uninterpreted constant, safe. -/
opaque stopGap : Fin 255

/-- `STOP_CMD` of this block (R6). -/
def stopCmd : Byte := startCmd + BitVec.ofNat 8 (stopGap.val + 1)

/-- The parameters of this block. -/
def params : Params := { marker := marker, startCmd := startCmd, stopCmd := stopCmd }

end Config

end Sys2Proof
end

