-- ==== Sys2Proof/Syntax.lean ====
section
/-! DEFINITION. The vocabulary of the block: sequencing state, input events (20_memory.md R42), output events (R44), and
`Instr`: one constructor per row of spec/opcode_table.json, with the operands its rule names. -/

namespace Sys2Proof

/-- `RUNSTATE` (10_state.md R11). The numeric codes are in Decode.lean. -/
inductive RunState where
  /-- After reset, not streaming. -/
  | idle
  /-- The loop is active. -/
  | run
  /-- Terminated normally: host stop or iteration limit. -/
  | stopped
  /-- Terminated by a fatal fault. -/
  | halted
  deriving DecidableEq, Repr

/-- `PHASE` (10_state.md R12): what the next byte is. Codes 5 to 7 do not exist (93_implementation_defined.md X1). -/
inductive Phase where
  /-- Looking for the first marker byte. -/
  | hunt
  /-- One marker byte seen; the next two bytes are being taken. -/
  | confirm
  /-- Taking the 2 thermistor bytes. -/
  | therm
  /-- Taking the 128 payload bytes. -/
  | array
  /-- Taking the checksum byte. -/
  | csum
  deriving DecidableEq, Repr

/-- The tuple that plays the role of a program counter (10_state.md R10): it says which operation the next input byte
causes. -/
structure SeqTuple where
  runstate : RunState
  phase : Phase
  fidx : Byte
  scancnt : Byte
  deriving DecidableEq, Repr

/-- A decoded frame `F[8][8]`: 64 signed 16-bit cells (42_frame_decode.md R101; two's complement, 92_eei_decisions.md
D5). -/
abbrev Frame := Grid Half

/-- A grid of 64 signed 32-bit cells: `SUM`, `PREV`, `A.S` (10_state.md R30, R32; 43_averager.md R107). -/
abbrev SumGrid := Grid Word

/-- An averaged frame `A` (43_averager.md R107): its cell `[r][c]` is the exact rational `S[r][c] / n`. -/
structure Avg where
  /-- The numerators `A.S`. -/
  S : SumGrid
  /-- The denominator `A.n`. -/
  n : Half
  deriving DecidableEq, Repr

/-- The operand of `CFGWR(reg, value)` (45_controller.md R123): a configuration register together with a value of that
register's width. A register that does not exist, or `CFG_TRIG[i]` with `i > 7`, cannot be written down (30_encoding.md
R69, 93_implementation_defined.md X5). -/
inductive CfgWrite where
  /-- `CFG_N`, 16 bits (R22). -/
  | n (v : Half)
  /-- `CFG_OCC_ENTER`, 16 bits (R24). -/
  | occEnter (v : Half)
  /-- `CFG_OCC_EXIT`, 16 bits (R24). -/
  | occExit (v : Half)
  /-- `CFG_MOT_ENTER`, 16 bits (R25). -/
  | motEnter (v : Half)
  /-- `CFG_MOT_EXIT`, 16 bits (R25). -/
  | motExit (v : Half)
  /-- `CFG_ITER_LIMIT`, 32 bits (R27). -/
  | iterLimit (v : Word)
  /-- `CFG_TRIG[i]`, `{valid, count}` = 1 + 32 bits (R26). -/
  | trig (i : Fin 8) (valid : Bool) (count : Word)
  deriving DecidableEq, Repr

/-- The input events (20_memory.md R42). A step processes exactly one. -/
inductive Event where
  | reset
  | cfgWr (w : CfgWrite)
  | start
  | stop
  | rx (b : Byte)
  | linkFail (txAvail : Bool)
  deriving DecidableEq, Repr

/-- The output events (20_memory.md R44). -/
inductive Output where
  /-- One byte sent to the device. -/
  | tx (b : Byte)
  /-- The frame callback: the averaged frame is the grid of the rationals `S[r][c] / n`. -/
  | frame (S : SumGrid) (n : Half) (occ mot : Bool) (cnt : Word)
  /-- The trigger callback. -/
  | trig (cnt : Word)
  /-- An error report (60_exceptions.md R142). -/
  | err (code : BitVec 3) (info : Half)
  deriving DecidableEq, Repr

/-- The operations and wire formats of spec/opcode_table.json, one constructor per row, in the table's order within each
format. Operands are those the rule names: the byte of an `RX(b)` event, the value of a `CFGWR`, the transient grid an
invoking operation hands over, the fields of a packet. -/
inductive Instr where
  -- format RX: selected by an RX event (30_encoding.md R65)
  /-- `SYNC.SKIP` (R81). -/
  | syncSkip (b : Byte)
  /-- `SYNC.FIRST` (R82). -/
  | syncFirst (b : Byte)
  /-- `SYNC.WINDOW` selected from `HUNT` (R85). -/
  | syncWindowHunt (b : Byte)
  /-- `SYNC.CONF1` (R83). -/
  | syncConf1 (b : Byte)
  /-- `SYNC.WINDOW` selected from `CONFIRM` with `FIDX = 0` (R85). -/
  | syncWindowConfirm (b : Byte)
  /-- `SYNC.CONF2` (R84). -/
  | syncConf2 (b : Byte)
  /-- `RD.THERM` (R91). -/
  | rdTherm (b : Byte)
  /-- `RD.ARRAY` (R92). -/
  | rdArray (b : Byte)
  /-- `RD.CSUM` (R93). -/
  | rdCsum (b : Byte)
  /-- `RX.DROP` (R124). -/
  | rxDrop (b : Byte)
  -- format SEQ: invoked by another operation
  /-- `PKT.REJECT(b)` (R94). -/
  | pktReject (b : Byte)
  /-- `PKT.ACCEPT` (R95). -/
  | pktAccept
  /-- `PIPE.RUN` (R120). -/
  | pipeRun
  /-- `DEC.FRAME` (R101). -/
  | decFrame
  /-- `ACC.ADD(F)` (R106). -/
  | accAdd (f : Frame)
  /-- `ACC.EMIT` (R107). -/
  | accEmit
  /-- `OCC.UPD(A)` (R112). -/
  | occUpd (a : Avg)
  /-- `MOT.FIRST(A)` (R114). -/
  | motFirst (a : Avg)
  /-- `MOT.UPD(A)` (R115). -/
  | motUpd (a : Avg)
  /-- `FRAME.OUT(A)` (R125). -/
  | frameOut (a : Avg)
  /-- `TRIG.CHK` (R126). -/
  | trigChk
  /-- `ITER.END` (R127). -/
  | iterEnd
  -- format HOST: selected by a host or link event
  /-- `CMD.START` (R121). -/
  | cmdStart
  /-- `CMD.STOP` (R122). -/
  | cmdStop
  /-- `CFG.WR` of `CFG_N` (R123, R22). -/
  | cfgWrN (v : Half)
  /-- `CFG.WR` of `CFG_OCC_ENTER` (R123, R24). -/
  | cfgWrOccEnter (v : Half)
  /-- `CFG.WR` of `CFG_OCC_EXIT` (R123, R24). -/
  | cfgWrOccExit (v : Half)
  /-- `CFG.WR` of `CFG_MOT_ENTER` (R123, R25). -/
  | cfgWrMotEnter (v : Half)
  /-- `CFG.WR` of `CFG_MOT_EXIT` (R123, R25). -/
  | cfgWrMotExit (v : Half)
  /-- `CFG.WR` of `CFG_ITER_LIMIT` (R123, R27). -/
  | cfgWrIterLimit (v : Word)
  /-- `CFG.WR` of `CFG_TRIG[i]` (R123, R26). -/
  | cfgWrTrig (i : Fin 8) (valid : Bool) (count : Word)
  /-- `RESET` (R160). -/
  | reset
  /-- `LINK.FAIL(tx_avail)` (R146). -/
  | linkFail (txAvail : Bool)
  -- format WIRE: data formats
  /-- `PACKET` (R61): the well-formed packet with this thermistor value and these 64 array values in wire order. -/
  | packet (therm : Half) (vals : Vector Half 64)
  /-- `CTL.START` (R64): the control byte `START_CMD` on the TX stream. -/
  | ctlStart
  /-- `CTL.STOP` (R64): the control byte `STOP_CMD` on the TX stream. -/
  | ctlStop
  deriving DecidableEq, Repr

/-- The formats of spec/opcode_table.json (30_encoding.md R66). -/
inductive InstrFormat where
  /-- Selected by an `RX` event. -/
  | rx
  /-- Selected by a host or link event. -/
  | host
  /-- Invoked by another operation; no encoding. -/
  | seq
  /-- A data format, not an operation. -/
  | wire
  deriving DecidableEq, Repr

/-- The format of a row (R66). -/
def Instr.format : Instr → InstrFormat
  | .syncSkip _ | .syncFirst _ | .syncWindowHunt _ | .syncConf1 _ | .syncWindowConfirm _ | .syncConf2 _ => .rx
  | .rdTherm _ | .rdArray _ | .rdCsum _ | .rxDrop _ => .rx
  | .pktReject _ | .pktAccept | .pipeRun | .decFrame | .accAdd _ | .accEmit => .seq
  | .occUpd _ | .motFirst _ | .motUpd _ | .frameOut _ | .trigChk | .iterEnd => .seq
  | .cmdStart | .cmdStop | .reset | .linkFail _ => .host
  | .cfgWrN _ | .cfgWrOccEnter _ | .cfgWrOccExit _ | .cfgWrMotEnter _ | .cfgWrMotExit _ => .host
  | .cfgWrIterLimit _ | .cfgWrTrig _ _ _ => .host
  | .packet _ _ | .ctlStart | .ctlStop => .wire

end Sys2Proof
end

