-- ==== Sys2Proof/Machine/Operands.lean ====
section
/-! DEFINITION. Operand forms: assembly of 16-bit values from bytes (30_encoding.md R62), the cells of an 8×8 grid
(00_scope.md section 5), the frame decoder's index arithmetic (42_frame_decode.md R101), the checksum (R96), the trigger
set (10_state.md R26) and the legality of a configuration's numbers (R23). -/

namespace Sys2Proof

/-- The 16-bit pattern `{hi, lo}`: the byte that arrives first is the low byte (20_memory.md R46, 30_encoding.md R62,
90_conflicts.md C1). Its value is `BitVec.toInt`, two's complement (92_eei_decisions.md D5). -/
def halfOfBytes (lo hi : Byte) : Half := hi ++ lo

/-- Bits 7:0 of a 16-bit value: the byte at the lower offset (R61). -/
def loByte (v : Half) : Byte := v.extractLsb' 0 8

/-- Bits 15:8 of a 16-bit value: the byte at the higher offset (R61). -/
def hiByte (v : Half) : Byte := v.extractLsb' 8 8

/-- Position of cell `[r][c]` in a grid held row by row. -/
def cellIndex (r c : Fin 8) : Fin 64 := ⟨8 * r.val + c.val, by omega⟩

/-- Cell `G[r][c]` (00_scope.md section 5). -/
def Grid.cell {α : Type} (g : Grid α) (r c : Fin 8) : α := g[(cellIndex r c).val]

/-- The grid whose cell `[r][c]` is `f r c`. -/
def Grid.build {α : Type} (f : Fin 8 → Fin 8 → α) : Grid α :=
  Vector.ofFn fun k : Fin 64 => f ⟨k.val / 8, by omega⟩ ⟨k.val % 8, by omega⟩

/-- The grid with every cell `v` (`all v` of 30_encoding.md R70). -/
def Grid.all {α : Type} (v : α) : Grid α := Vector.replicate 64 v

/-- `8 * r + (7 - c)`: the array value that becomes frame cell `[r][c]` (30_encoding.md R63). -/
def mirrorIndex (r c : Fin 8) : Fin 64 := ⟨8 * r.val + (7 - c.val), by omega⟩

/-- The first line of `DEC.FRAME` (R101): the 64 array values, `v[k] = {ARRBUF[2k+1], ARRBUF[2k]}`. -/
def unpackValues (arr : Vector Byte 128) : Vector Half 64 :=
  Vector.ofFn fun k : Fin 64 => halfOfBytes (arr[2 * k.val]'(by omega)) (arr[2 * k.val + 1]'(by omega))

/-- The second line of `DEC.FRAME` (R101): row-major layout with the columns of each row reversed. -/
def mirrorFrame (v : Vector Half 64) : Frame :=
  Grid.build fun r c => v[(mirrorIndex r c).val]

/-- `DEC.FRAME` as a function of the raw payload (42_frame_decode.md R100, R101). -/
def decodeFrame (arr : Vector Byte 128) : Frame := mirrorFrame (unpackValues arr)

/-- The columns of each row in reverse order (R103 (b)). -/
def Grid.reverseColumns {α : Type} (g : Grid α) : Grid α :=
  Grid.build fun r c => g.cell r ⟨7 - c.val, by omega⟩

/-- `checksum(d)` (41_packet_checksum.md R96): the sum of the bytes, as unsigned integers, modulo 256. -/
def checksum (d : List Byte) : Byte := BitVec.ofNat 8 ((d.map BitVec.toNat).sum % 256)

/-- One step of the running sum in `CSUMACC` (R91, R92): `(CSUMACC + b) mod 256`, the carry out of bit 7 is lost. -/
def addCsum (acc b : Byte) : Byte := acc + b

/-- `SUM[r][c] + F[r][c]` in every cell (43_averager.md R106): the 64 additions are independent lanes of a 32-bit adder,
which never wraps on a reachable state (10_state.md R30). -/
def addFrame (s : SumGrid) (f : Frame) : SumGrid :=
  Grid.build fun r c => s.cell r c + (f.cell r c).signExtend 32

/-- The sum of an integer-valued function of the cells over the 64 cells (`Σ` of 44_detectors.md). -/
def sumCells (f : Fin 8 → Fin 8 → Int) : Int :=
  ((List.finRange 8).map fun r => ((List.finRange 8).map fun c => f r c).sum).sum

/-- The value of the averaged frame at cell `[r][c]` (43_averager.md R107): the exact rational `A.S[r][c] / A.n`. -/
def Avg.value (a : Avg) (r c : Fin 8) : Rat := ((a.S.cell r c).toInt : Rat) / ((a.n.toNat : Int) : Rat)

/-- `{hi, lo}` of two bytes as the 16-bit `info` of an error report (60_exceptions.md R145). -/
def infoOfBytes (hi lo : Byte) : Half := hi ++ lo

end Sys2Proof
end

