-- ==== Sys2Proof/WellFormed.lean ====
section
/-! DEFINITION. Which terms of `Instr` the spec's tables give a meaning: the byte condition of the table's `RX` rows, the
shape of an averaged frame, and the one constraint on the control bytes. -/

namespace Sys2Proof

/-- An averaged frame is the sum grid of `n >= 1` frames of signed 16-bit cells (43_averager.md R107, R108): its
denominator is not 0 and each numerator lies within `n × 32768` (10_state.md R37 item 2). -/
def Avg.wellFormed (a : Avg) : Bool :=
  decide (1 ≤ a.n.toNat) && a.S.toList.all fun v => decide (v.toInt.natAbs ≤ a.n.toNat * 32768)

/-- The static conditions of the opcode table: `SYNC.SKIP` is selected only by a byte other than `MARKER` and
`SYNC.FIRST` only by `MARKER` (30_encoding.md R65); the detectors and `FRAME.OUT` take an averaged frame; the two control
bytes are different (00_scope.md R6). Every other operand may have any value (30_encoding.md R67, 45_controller.md
R123). -/
def Instr.wellFormed (p : Params) : Instr → Bool
  | .syncSkip b => b != p.marker
  | .syncFirst b => b == p.marker
  | .syncWindowHunt _ | .syncConf1 _ | .syncWindowConfirm _ | .syncConf2 _ => true
  | .rdTherm _ | .rdArray _ | .rdCsum _ | .rxDrop _ => true
  | .pktReject _ | .pktAccept | .pipeRun | .decFrame | .accAdd _ | .accEmit => true
  | .occUpd a | .motFirst a | .motUpd a | .frameOut a => a.wellFormed
  | .trigChk | .iterEnd => true
  | .cmdStart | .cmdStop | .reset | .linkFail _ => true
  | .cfgWrN _ | .cfgWrOccEnter _ | .cfgWrOccExit _ | .cfgWrMotEnter _ | .cfgWrMotExit _ => true
  | .cfgWrIterLimit _ | .cfgWrTrig _ _ _ => true
  | .packet _ _ => true
  | .ctlStart | .ctlStop => p.startCmd != p.stopCmd

end Sys2Proof
end

