-- ==== Sys2Proof/Decode.lean ====
section
/-! DEFINITION. Decoding. The block executes no instructions (30_encoding.md, opening); what it decodes is (a) which
operation an input event performs in the current sequencing state, rule R65, the counterpart of an opcode map, and (b) the
wire packet and the control bytes, rules R60 to R64. Both decoders are total and reject by name; the encoder stands after
them. -/

namespace Sys2Proof

/-- Why a decoder refuses. Every refusal is safe: the spec gives no operation for what is refused. -/
inductive DecodeRefusal where
  /-- A combination of `RUNSTATE`, `PHASE`, `FIDX`, `SCANCNT` that is not in R65's table (93_implementation_defined.md
  X2). -/
  | unreachableSelection
  /-- A `PHASE` code 5 to 7 (10_state.md R12, X1). -/
  | phaseCode
  /-- A byte sequence that is neither 1 nor 134 bytes long (R60, R64). -/
  | wireLength
  /-- A 134-byte sequence whose first three bytes are not all `MARKER` (R61). -/
  | noMarker
  /-- A 134-byte sequence whose last byte is not the checksum of its data bytes (R61). -/
  | badChecksum
  /-- One byte that is neither `START_CMD` nor `STOP_CMD` (R64). -/
  | unknownControl
  /-- `CFG_TRIG[i]` with `i > 7` (R69, X5). -/
  | noSuchRegister
  /-- A number that does not fit the width of its register, byte, bit or 16-bit value (R42, R123). -/
  | valueTooWide
  /-- A list of array values that does not have 64 entries, or a grid that is not 8×8 (R70). -/
  | wrongShape
  deriving DecidableEq, Repr

/-! ### Numeric codes (10_state.md R11, R12; 92_eei_decisions.md D21) -/

/-- The 2-bit code of `RUNSTATE` (R11). -/
def runStateCode : RunState → BitVec 2
  | .idle => 0
  | .run => 1
  | .stopped => 2
  | .halted => 3

/-- The `RUNSTATE` of a 2-bit code (R11). -/
def runStateOfCode (c : BitVec 2) : RunState :=
  if c = 0 then .idle else if c = 1 then .run else if c = 2 then .stopped else .halted

/-- The 3-bit code of `PHASE` (R12). -/
def phaseCode : Phase → BitVec 3
  | .hunt => 0
  | .confirm => 1
  | .therm => 2
  | .array => 3
  | .csum => 4

/-- The `PHASE` of a 3-bit code; codes 5 to 7 are never produced (R12) and refused (X1). -/
def phaseOfCode (c : BitVec 3) : Except DecodeRefusal Phase :=
  if c = 0 then .ok .hunt
  else if c = 1 then .ok .confirm
  else if c = 2 then .ok .therm
  else if c = 3 then .ok .array
  else if c = 4 then .ok .csum
  else .error .phaseCode

/-! ### Operation selection (30_encoding.md R65) -/

/-- R65, first table: the operation an `RX(b)` event performs. -/
def selectRx (p : Params) (q : SeqTuple) (b : Byte) : Except DecodeRefusal Instr :=
  match q.runstate with
  | .idle | .stopped | .halted => .ok (.rxDrop b)
  | .run =>
    match q.phase with
    | .hunt =>
      if q.fidx ≠ 0 then .error .unreachableSelection
      else if q.scancnt.toNat ≤ 132 then .ok (if b = p.marker then .syncFirst b else .syncSkip b)
      else if q.scancnt.toNat = 133 then .ok (.syncWindowHunt b)
      else .error .unreachableSelection
    | .confirm =>
      if q.fidx = 0 then
        if 1 ≤ q.scancnt.toNat ∧ q.scancnt.toNat ≤ 132 then .ok (.syncConf1 b)
        else if q.scancnt.toNat = 133 then .ok (.syncWindowConfirm b)
        else .error .unreachableSelection
      else if q.fidx = 1 then
        if 2 ≤ q.scancnt.toNat ∧ q.scancnt.toNat ≤ 133 then .ok (.syncConf2 b)
        else .error .unreachableSelection
      else .error .unreachableSelection
    | .therm => if q.fidx.toNat ≤ 1 then .ok (.rdTherm b) else .error .unreachableSelection
    | .array => if q.fidx.toNat ≤ 127 then .ok (.rdArray b) else .error .unreachableSelection
    | .csum => if q.fidx = 0 then .ok (.rdCsum b) else .error .unreachableSelection

/-- The `CFG.WR` row of the register written (R66: one row per configuration register). -/
def selectCfgWr : CfgWrite → Instr
  | .n v => .cfgWrN v
  | .occEnter v => .cfgWrOccEnter v
  | .occExit v => .cfgWrOccExit v
  | .motEnter v => .cfgWrMotEnter v
  | .motExit v => .cfgWrMotExit v
  | .iterLimit v => .cfgWrIterLimit v
  | .trig i valid count => .cfgWrTrig i valid count

/-- R65, both tables: the operation a step performs on an event. -/
def select (p : Params) (q : SeqTuple) (e : Event) : Except DecodeRefusal Instr :=
  match e with
  | .rx b => selectRx p q b
  | .reset => .ok .reset
  | .start => .ok .cmdStart
  | .stop => .ok .cmdStop
  | .cfgWr w => .ok (selectCfgWr w)
  | .linkFail t => .ok (.linkFail t)

/-! ### The wire packet and the control bytes (30_encoding.md R60 to R64) -/

/-- Byte `i` of a byte sequence; 0 past its end (only ever used below the sequence's length). -/
def byteAt (bytes : List Byte) (i : Nat) : Byte := bytes.getD i 0

/-- The 16-bit value at offset `i` (R62). -/
def halfAt (bytes : List Byte) (i : Nat) : Half := halfOfBytes (byteAt bytes i) (byteAt bytes (i + 1))

/-- Offsets 3 to 132: the bytes the checksum covers (R61, 90_conflicts.md C3). -/
def packetData (bytes : List Byte) : List Byte := (bytes.drop Config.markerLen).take Config.dataLen

/-- Reads a byte sequence as the packet of R61: length 134, three marker bytes, fields, checksum. -/
def decodePacket (p : Params) (bytes : List Byte) : Except DecodeRefusal Instr :=
  if bytes.length ≠ Config.packetWidth then .error .wireLength
  else if bytes.take Config.markerLen ≠ [p.marker, p.marker, p.marker] then .error .noMarker
  else if byteAt bytes 133 ≠ checksum (packetData bytes) then .error .badChecksum
  else .ok (.packet (halfAt bytes 3) (Vector.ofFn fun k : Fin 64 => halfAt bytes (5 + 2 * k.val)))

/-- Reads one byte of the TX stream as a control byte (R64). -/
def decodeControl (p : Params) (b : Byte) : Except DecodeRefusal Instr :=
  if b = p.startCmd then .ok .ctlStart
  else if b = p.stopCmd then .ok .ctlStop
  else .error .unknownControl

/-- The wire decoder: one byte is a control byte, 134 bytes a packet, any other length is refused. -/
def decodeWire (p : Params) (bytes : List Byte) : Except DecodeRefusal Instr :=
  match bytes with
  | [b] => decodeControl p b
  | _ => decodePacket p bytes

/-- What carries an instruction: an input event, or bytes on the wire. The sequenced operations have no encoding (R66). -/
inductive Carrier where
  | event (e : Event)
  | wire (bytes : List Byte)
  deriving DecidableEq, Repr

/-- The decoder: an event by the sequencing state, bytes by the wire formats. Total; rejects by name. -/
def decode (p : Params) (q : SeqTuple) : Carrier → Except DecodeRefusal Instr
  | .event e => select p q e
  | .wire bytes => decodeWire p bytes

/-! ### The encoder -/

/-- The 130 data bytes of a packet (R61): the thermistor low byte first, then each array value low byte first. -/
def encodeData (therm : Half) (vals : Vector Half 64) : List Byte :=
  loByte therm :: hiByte therm :: vals.toList.flatMap fun v => [loByte v, hiByte v]

/-- The 134 bytes of the well-formed packet (R61; `PKT(t; v0, ..., v63)` of R70). -/
def encodePacket (p : Params) (therm : Half) (vals : Vector Half 64) : List Byte :=
  [p.marker, p.marker, p.marker] ++ encodeData therm vals ++ [checksum (encodeData therm vals)]

/-- The event that carries an `RX` or `HOST` operation (R65); none for the `SEQ` and `WIRE` rows (R66). -/
def Instr.event? : Instr → Option Event
  | .syncSkip b | .syncFirst b | .syncWindowHunt b | .syncConf1 b | .syncWindowConfirm b | .syncConf2 b => some (.rx b)
  | .rdTherm b | .rdArray b | .rdCsum b | .rxDrop b => some (.rx b)
  | .pktReject _ | .pktAccept | .pipeRun | .decFrame | .accAdd _ | .accEmit => none
  | .occUpd _ | .motFirst _ | .motUpd _ | .frameOut _ | .trigChk | .iterEnd => none
  | .cmdStart => some .start
  | .cmdStop => some .stop
  | .cfgWrN v => some (.cfgWr (.n v))
  | .cfgWrOccEnter v => some (.cfgWr (.occEnter v))
  | .cfgWrOccExit v => some (.cfgWr (.occExit v))
  | .cfgWrMotEnter v => some (.cfgWr (.motEnter v))
  | .cfgWrMotExit v => some (.cfgWr (.motExit v))
  | .cfgWrIterLimit v => some (.cfgWr (.iterLimit v))
  | .cfgWrTrig i valid count => some (.cfgWr (.trig i valid count))
  | .reset => some .reset
  | .linkFail t => some (.linkFail t)
  | .packet _ _ | .ctlStart | .ctlStop => none

/-- The bytes of a `WIRE` row (R61, R64); none for the other formats. -/
def Instr.bytes? (p : Params) : Instr → Option (List Byte)
  | .packet therm vals => some (encodePacket p therm vals)
  | .ctlStart => some [p.startCmd]
  | .ctlStop => some [p.stopCmd]
  | .syncSkip _ | .syncFirst _ | .syncWindowHunt _ | .syncConf1 _ | .syncWindowConfirm _ | .syncConf2 _ => none
  | .rdTherm _ | .rdArray _ | .rdCsum _ | .rxDrop _ => none
  | .pktReject _ | .pktAccept | .pipeRun | .decFrame | .accAdd _ | .accEmit => none
  | .occUpd _ | .motFirst _ | .motUpd _ | .frameOut _ | .trigChk | .iterEnd => none
  | .cmdStart | .cmdStop | .reset | .linkFail _ => none
  | .cfgWrN _ | .cfgWrOccEnter _ | .cfgWrOccExit _ | .cfgWrMotEnter _ | .cfgWrMotExit _ => none
  | .cfgWrIterLimit _ | .cfgWrTrig _ _ _ => none

/-- The encoder: what carries the instruction, if its format has an encoding. -/
def encode (p : Params) (i : Instr) : Option Carrier :=
  match i.event?, i.bytes? p with
  | some e, _ => some (.event e)
  | none, some bytes => some (.wire bytes)
  | none, none => none

/-- The row of R65's tables that selects the operation, as a condition on the sequencing state and the byte: the columns
`runstate`, `phase`, `fidx`, `scancnt`, `byte` of spec/opcode_table.json. The `HOST` rows are selected in every state; the
`SEQ` rows by no event; the `WIRE` rows do not depend on the sequencing state. -/
def Instr.selectedAt (p : Params) (q : SeqTuple) : Instr → Bool
  | .rxDrop _ => q.runstate != .run
  | .syncSkip b => q.runstate == .run && q.phase == .hunt && q.fidx == 0 && decide (q.scancnt.toNat ≤ 132) && b != p.marker
  | .syncFirst b => q.runstate == .run && q.phase == .hunt && q.fidx == 0 && decide (q.scancnt.toNat ≤ 132) && b == p.marker
  | .syncWindowHunt _ => q.runstate == .run && q.phase == .hunt && q.fidx == 0 && q.scancnt == 133
  | .syncConf1 _ =>
    q.runstate == .run && q.phase == .confirm && q.fidx == 0 && decide (1 ≤ q.scancnt.toNat) && decide (q.scancnt.toNat ≤ 132)
  | .syncWindowConfirm _ => q.runstate == .run && q.phase == .confirm && q.fidx == 0 && q.scancnt == 133
  | .syncConf2 _ =>
    q.runstate == .run && q.phase == .confirm && q.fidx == 1 && decide (2 ≤ q.scancnt.toNat) && decide (q.scancnt.toNat ≤ 133)
  | .rdTherm _ => q.runstate == .run && q.phase == .therm && decide (q.fidx.toNat ≤ 1)
  | .rdArray _ => q.runstate == .run && q.phase == .array && decide (q.fidx.toNat ≤ 127)
  | .rdCsum _ => q.runstate == .run && q.phase == .csum && q.fidx == 0
  | .cmdStart | .cmdStop | .reset | .linkFail _ => true
  | .cfgWrN _ | .cfgWrOccEnter _ | .cfgWrOccExit _ | .cfgWrMotEnter _ | .cfgWrMotExit _ => true
  | .cfgWrIterLimit _ | .cfgWrTrig _ _ _ => true
  | .pktReject _ | .pktAccept | .pipeRun | .decFrame | .accAdd _ | .accEmit => false
  | .occUpd _ | .motFirst _ | .motUpd _ | .frameOut _ | .trigChk | .iterEnd => false
  | .packet _ _ | .ctlStart | .ctlStop => true

/-! ### Words for the host's question

The spec gives no instruction word. MARK: DESIGN CHOICE (log 8): a word of up to 32 bits is an `RX` byte in bits 7:0 (the
numbering of spec/opcode_table.json, R66) under the sequencing state in the bits above it: RUNSTATE in 9:8, PHASE in 12:10
(their codes of R11, R12), FIDX in 20:13, SCANCNT in 28:21; zeros there are the reset state. A word of 1072 bits is the 134
bytes of a packet, the first byte lowest. -/

/-- `n` bytes of a word, least significant first. -/
def bytesOfWord : Nat → Nat → List Byte
  | 0, _ => []
  | n + 1, w => BitVec.ofNat 8 w :: bytesOfWord n (w / 256)

/-- The sequencing state in bits 28:8 of a word (log 8). -/
def seqOfWord (w : Nat) : Except DecodeRefusal SeqTuple :=
  match phaseOfCode (BitVec.ofNat 3 (w / 2 ^ 10)) with
  | .error r => .error r
  | .ok ph =>
    .ok { runstate := runStateOfCode (BitVec.ofNat 2 (w / 2 ^ 8)), phase := ph,
          fidx := BitVec.ofNat 8 (w / 2 ^ 13), scancnt := BitVec.ofNat 8 (w / 2 ^ 21) }

/-- The instruction the decoder reads from a word (log 8); none where it refuses. -/
def decodeTableWord (nbits w : Nat) : Option Instr :=
  if nbits = 8 * Config.packetWidth then (decode Config.params ⟨.idle, .hunt, 0, 0⟩ (.wire (bytesOfWord 134 w))).toOption
  else if nbits ≤ 32 ∧ w < 2 ^ 29 then
    match seqOfWord w with
    | .error _ => none
    | .ok q => (decode Config.params q (.event (.rx (BitVec.ofNat 8 w)))).toOption
  else none

end Sys2Proof
end

