-- ==== Sys2Proof/Machine/State.lean ====
section
/-! DEFINITION. The state of the block: every element of 10_state.md R11 to R34 under its own name, and the model's own
fields (the parameters, the events not yet processed, the events emitted, the transient of the operation just run). Plain
data. `State.reset` is the table of R36. -/

namespace Sys2Proof.Machine

/-- One entry of `CFG_TRIG` (10_state.md R26): `valid` is bit 32, `count` bits 31:0. -/
structure TrigSlot where
  valid : Bool
  count : Word
  deriving DecidableEq, Repr

/-- The configuration registers (10_state.md R22 to R27). -/
structure CfgRegs where
  /-- `CFG_N` (R22). -/
  n : Half
  /-- `CFG_OCC_ENTER` (R24). -/
  occEnter : Half
  /-- `CFG_OCC_EXIT` (R24). -/
  occExit : Half
  /-- `CFG_MOT_ENTER` (R25). -/
  motEnter : Half
  /-- `CFG_MOT_EXIT` (R25). -/
  motExit : Half
  /-- `CFG_TRIG[0..7]` (R26). -/
  trig : Vector TrigSlot 8
  /-- `CFG_ITER_LIMIT` (R27). -/
  iterLimit : Word
  deriving DecidableEq, Repr

/-- The transient value a sequenced operation yields to the operation that invoked it (10_state.md R35). It lives only
inside a step: between steps it is `nothing`. MARK: DESIGN CHOICE (log 4), safe. -/
inductive Yield where
  /-- Nothing was yielded, or it has been consumed. -/
  | nothing
  /-- The decoded frame `F` (R101). -/
  | frame (f : Frame)
  /-- A completed average `A` (R107). -/
  | avg (a : Avg)
  deriving DecidableEq, Repr

/-- The architectural state. -/
structure State where
  /-- `RUNSTATE` (R11). -/
  runstate : RunState
  /-- `PHASE` (R12). -/
  phase : Phase
  /-- `FIDX` (R14). -/
  fidx : Byte
  /-- `SCANCNT` (R13). -/
  scancnt : Byte
  /-- `CONFOK` (R15). -/
  confok : Bool
  /-- `THERMBUF[0..1]` (R16). -/
  thermbuf : Vector Byte 2
  /-- `ARRBUF[0..127]` (R17). -/
  arrbuf : Vector Byte 128
  /-- `CSUMACC` (R18). -/
  csumacc : Byte
  /-- `THERM` (R19), read as a two's-complement value. -/
  therm : Half
  /-- `PKTCNT` (R20). -/
  pktcnt : Word
  /-- `ITERCNT` (R21). -/
  itercnt : Word
  /-- The configuration registers (R22 to R27). -/
  cfg : CfgRegs
  /-- `SUM` (R30), cells read as two's-complement values. -/
  sum : SumGrid
  /-- `SAMPLES` (R31). -/
  samples : Half
  /-- `PREVVALID` (R32). -/
  prevvalid : Bool
  /-- `PREV` (R32), cells read as two's-complement values. -/
  prev : SumGrid
  /-- `OCC` (R33). -/
  occ : Bool
  /-- `MOT` (R34). -/
  mot : Bool
  /-- MODEL'S OWN (log 1): the open parameters (00_scope.md R6), which no step changes. -/
  params : Params
  /-- MODEL'S OWN (log 2): the input events not yet processed, oldest first (20_memory.md R42). -/
  inbox : List Event
  /-- MODEL'S OWN (log 3): the output events emitted so far, oldest first (20_memory.md R44, R52). -/
  outbox : List Output
  /-- MODEL'S OWN (log 4): the transient inside a step (R35). -/
  yielded : Yield
  deriving DecidableEq, Repr

/-- The machine never stops with a fault: the step function is total (20_memory.md R42), and the fatal conditions of
60_exceptions.md R146 and R147 are states in which `RUNSTATE = HALTED`. So there is no constructor (log 9). -/
inductive Fault where
  deriving DecidableEq, Repr

/-- Why a step is refused. All but `notModelled` are states the spec calls unreachable and says a model may refuse
(30_encoding.md R65, 93_implementation_defined.md section 2). -/
inductive Refusal where
  /-- Raised by an arm of `exec` that has no meaning; no arm is left so. Safe. -/
  | notModelled (mnemonic : String)
  /-- X2: raised by the step when R65's table has no row for the sequencing state, and by `RD.THERM` and `RD.ARRAY` when
  `FIDX` is outside the buffer. Safe: the spec gives no operation. -/
  | unreachableSelection
  /-- X4: raised by `PIPE.RUN` when the configuration is not legal ("no rule says what the pipeline would do"). Safe. -/
  | illegalConfiguration
  /-- X3: raised by `PIPE.RUN` when `SAMPLES >= CFG_N` before the packet is added. Safe. -/
  | windowOverrun
  /-- X6: raised by `PIPE.RUN` when `MOT = 1` with `PREVVALID = 0`. Safe. -/
  | motionWithoutPrevious
  deriving DecidableEq, Repr

/-- The configuration registers' reset values (R36): the source's defaults. -/
def CfgRegs.reset : CfgRegs where
  n := 1
  occEnter := 30
  occExit := 25
  motEnter := 20
  motExit := 13
  trig := Vector.replicate 8 { valid := false, count := 0 }
  iterLimit := 0

/-- The machine after `RESET` or power-on: the table of 10_state.md R36 (70_reset_and_hazards.md R160, R161). The model's
own fields: the parameters are the open constants (log 1), nothing is waiting and nothing has been emitted (log 2, 3), and
no transient is held (log 4). -/
def State.reset : State where
  runstate := .idle
  phase := .hunt
  fidx := 0
  scancnt := 0
  confok := false
  thermbuf := Vector.replicate 2 0
  arrbuf := Vector.replicate 128 0
  csumacc := 0
  therm := 0
  pktcnt := 0
  itercnt := 0
  cfg := CfgRegs.reset
  sum := Vector.replicate 64 0
  samples := 0
  prevvalid := false
  prev := Vector.replicate 64 0
  occ := false
  mot := false
  params := Config.params
  inbox := []
  outbox := []
  yielded := .nothing

/-- The sequencing state of R10. -/
def State.seq (s : State) : SeqTuple :=
  { runstate := s.runstate, phase := s.phase, fidx := s.fidx, scancnt := s.scancnt }

/-- What the host can read at any time (10_state.md R29; 92_eei_decisions.md D25). -/
structure HostView where
  runstate : RunState
  phase : Phase
  scancnt : Byte
  fidx : Byte
  pktcnt : Word
  itercnt : Word
  therm : Half
  samples : Half
  occ : Bool
  mot : Bool
  prevvalid : Bool
  cfg : CfgRegs
  deriving DecidableEq, Repr

end Sys2Proof.Machine
end

