-- ==== Sys2Proof/Machine/Flags.lean ====
section
/-! DEFINITION. The two flags and the comparisons that drive them (44_detectors.md): exact integer measures (R110, R111,
R113) and the two-threshold flip-flop (R112, R115). Also the legality of a configuration (10_state.md R23) and membership
in the trigger set (R26), the block's other two yes-or-no answers. -/

namespace Sys2Proof.Machine

/-- `T = Σ S[r][c]` (R111). -/
def gridTotal (g : SumGrid) : Int := sumCells fun r c => (g.cell r c).toInt

/-- `Σ S[r][c]^2` (R111). -/
def gridSquares (g : SumGrid) : Int := sumCells fun r c => (g.cell r c).toInt ^ 2

/-- `QOCC = 64 * (Σ S[r][c]^2) − T^2` (R111). -/
def qocc (g : SumGrid) : Int := 64 * gridSquares g - gridTotal g ^ 2

/-- `QMOT = Σ (S[r][c] − P[r][c])^2` (R113). -/
def qmot (g p : SumGrid) : Int := sumCells fun r c => ((g.cell r c).toInt - (p.cell r c).toInt) ^ 2

/-- `64 * n^2 * t^2`: the bound `QOCC` is compared with (R111). -/
def occBound (n t : Half) : Int := 64 * (n.toNat : Int) ^ 2 * (t.toNat : Int) ^ 2

/-- `n^2 * t^2`: the bound `QMOT` is compared with (R113). -/
def motBound (n t : Half) : Int := (n.toNat : Int) ^ 2 * (t.toNat : Int) ^ 2

/-- The hysteresis flip-flop (R112, R115): above the enter threshold it is set if entry is allowed and otherwise left
alone; else below the exit threshold it is cleared; else it is left alone. -/
def schmitt (above below entry old : Bool) : Bool :=
  if above then (if entry then true else old)
  else if below then false
  else old

/-- The new `OCC` (R112): entry is always allowed; both comparisons are strict. -/
def occNext (c : CfgRegs) (a : Avg) (occ : Bool) : Bool :=
  schmitt (decide (qocc a.S > occBound a.n c.occEnter)) (decide (qocc a.S < occBound a.n c.occExit)) true occ

/-- The new `MOT` (R115): entry is gated by `OCC`; both comparisons are strict. -/
def motNext (c : CfgRegs) (a : Avg) (prev : SumGrid) (occ mot : Bool) : Bool :=
  schmitt (decide (qmot a.S prev > motBound a.n c.motEnter)) (decide (qmot a.S prev < motBound a.n c.motExit)) occ mot

/-- The configuration is legal (10_state.md R23). -/
def cfgLegal (c : CfgRegs) : Bool :=
  decide (1 ≤ c.n.toNat) && decide (c.occExit.toNat ≤ c.occEnter.toNat) && decide (c.motExit.toNat ≤ c.motEnter.toNat)

/-- `cnt` is a member of `TRIGSET` (10_state.md R26). -/
def inTrigSet (c : CfgRegs) (cnt : Word) : Bool := c.trig.toList.any fun t => t.valid && t.count == cnt

end Sys2Proof.Machine
end

