-- ==== Sys2Proof/Machine/Ops.lean ====
section
/-! DEFINITION. The shared operations: emitting output events, the end of an iteration (45_controller.md R127), ENTERING AN
ERROR as one operation (60_exceptions.md R143 to R148), reset (70_reset_and_hazards.md R160), the transients of R35, input
events and what the host can read. -/

namespace Sys2Proof.Machine

/-- What a meaning answers. -/
abbrev Result := Host.Outcome State Fault Refusal

/-- `emit E` (00_scope.md section 5): append to the output events (20_memory.md R44, R52). -/
def State.emit (s : State) (e : Output) : State := { s with outbox := s.outbox ++ [e] }

/-- `emit TX(START_CMD)` (30_encoding.md R64, 20_memory.md R45). -/
def sendStart (s : State) : State := s.emit (.tx s.params.startCmd)

/-- `emit TX(STOP_CMD)` (30_encoding.md R64, 20_memory.md R45). -/
def sendStop (s : State) : State := s.emit (.tx s.params.stopCmd)

/-- Store the transient an operation yields (10_state.md R35; log 4). -/
def State.yield (s : State) (y : Yield) : State := { s with yielded := y }

/-- The first four lines of `ITER.END` (R127): back to `HUNT`, a new attempt begins. -/
def rewind (s : State) : State := { s with phase := .hunt, fidx := 0, scancnt := 0, confok := false }

/-- The last lines of `ITER.END` (R127): count the iteration if a limit is set, and stop when it is reached. -/
def countIteration (s : State) : State :=
  if s.cfg.iterLimit = 0 then s
  else
    let t := { s with itercnt := s.itercnt + 1 }
    if t.itercnt = t.cfg.iterLimit then { sendStop t with runstate := .stopped } else t

/-- `ITER.END` (45_controller.md R127). -/
def iterEnd (s : State) : State := countIteration (rewind s)

/-- The error conditions of 60_exceptions.md R141 with what each report carries. -/
inductive ErrorCause where
  /-- `SyncError`, sub-cause `WINDOW`. -/
  | syncWindow
  /-- `SyncError`, sub-cause `CONFIRM`. -/
  | syncConfirm
  /-- `ChecksumError` with the received and the computed checksum. -/
  | checksumError (received computed : Byte)
  /-- `LinkFailure` with `tx_avail`. -/
  | linkFailure (txAvail : Bool)
  /-- `ConfigInvalid`. -/
  | configInvalid
  /-- `CounterOverflow`. -/
  | counterOverflow
  deriving DecidableEq, Repr

/-- The 3-bit `code` of an error (R141). -/
def errorCode : ErrorCause → BitVec 3
  | .syncWindow | .syncConfirm => 1
  | .checksumError _ _ => 2
  | .linkFailure _ => 3
  | .configInvalid => 4
  | .counterOverflow => 5

/-- The 16-bit `info` of an error (R141). -/
def errorInfo : ErrorCause → Half
  | .syncWindow => 0
  | .syncConfirm => 1
  | .checksumError received computed => infoOfBytes received computed
  | .linkFailure txAvail => if txAvail then 1 else 0
  | .configInvalid => 0
  | .counterOverflow => 0

/-- The state change of an error's own rule, after its report: R144, R145 (the iteration ends), R146 (`TX(STOP_CMD)` if
the outbound direction works, then `HALTED`), R147 (`TX(STOP_CMD)`, then `HALTED`), R148 (none). -/
def enterError (c : ErrorCause) (s : State) : State :=
  match c with
  | .syncWindow | .syncConfirm | .checksumError _ _ => iterEnd s
  | .linkFailure txAvail => { (if txAvail then sendStop s else s) with runstate := .halted }
  | .configInvalid => s
  | .counterOverflow => { sendStop s with runstate := .halted }

/-- `raise X(info)` (60_exceptions.md R143): emit `ERR(code, info)`, then the state change of the error's own rule. The
caller stops there. Nothing is saved, and there is no return from an error (R149). -/
def raise (c : ErrorCause) (s : State) : State := enterError c (s.emit (.err (errorCode c) (errorInfo c)))

/-- `RESET` (70_reset_and_hazards.md R160): every state element to its value in the table of R36. No output. The
parameters, the events still waiting and the events already emitted belong to the environment and stay (log 2, 3). -/
def resetState (s : State) : State :=
  { State.reset with params := s.params, inbox := s.inbox, outbox := s.outbox }

/-- Store a value in a configuration register, the whole register (45_controller.md R123). -/
def writeCfg (c : CfgRegs) : CfgWrite → CfgRegs
  | .n v => { c with n := v }
  | .occEnter v => { c with occEnter := v }
  | .occExit v => { c with occExit := v }
  | .motEnter v => { c with motEnter := v }
  | .motExit v => { c with motExit := v }
  | .iterLimit v => { c with iterLimit := v }
  | .trig i valid count => { c with trig := c.trig.set i.val { valid := valid, count := count } }

/-- `CFG.WR` (R123): a write acts only in `IDLE` (10_state.md R28); elsewhere it is ignored. -/
def cfgWr (w : CfgWrite) (s : State) : State :=
  if s.runstate = .idle then { s with cfg := writeCfg s.cfg w } else s

/-- `CFG_TRIG[i]` as its 33-bit value (10_state.md R26): `valid` in bit 32, `count` in bits 31:0. -/
def trigBits (t : TrigSlot) : BitVec 33 := BitVec.ofBool t.valid ++ t.count

/-- What the host reads (10_state.md R28, R29), without any side effect. -/
def State.hostView (s : State) : HostView where
  runstate := s.runstate
  phase := s.phase
  scancnt := s.scancnt
  fidx := s.fidx
  pktcnt := s.pktcnt
  itercnt := s.itercnt
  therm := s.therm
  samples := s.samples
  occ := s.occ
  mot := s.mot
  prevvalid := s.prevvalid
  cfg := s.cfg

/-! ### Input events -/

/-- The environment delivers events: they wait behind those already waiting (20_memory.md R42, R52 (a)). -/
def State.deliver (s : State) (es : List Event) : State := { s with inbox := s.inbox ++ es }

/-- The bytes as `RX` events, in order (20_memory.md R43). -/
def rxEvents (bytes : List Byte) : List Event := bytes.map .rx

/-- Priority of coinciding input events, 0 the highest (60_exceptions.md R152). -/
def eventPriority : Event → Nat
  | .reset => 0
  | .linkFail _ => 1
  | .stop => 2
  | .start => 3
  | .cfgWr _ => 4
  | .rx _ => 5

/-- Insert an event behind all those of a priority at least as high. -/
def insertEvent (e : Event) : List Event → List Event
  | [] => [e]
  | f :: fs => if eventPriority f ≤ eventPriority e then f :: insertEvent e fs else e :: f :: fs

/-- The order in which events seen in one clock cycle are processed (R152): highest priority first, equal ones as given. -/
def serialise (es : List Event) : List Event := es.foldl (fun acc e => insertEvent e acc) []

/-- Deliver the events seen together in one clock cycle (R152). -/
def State.deliverTogether (s : State) (es : List Event) : State := s.deliver (serialise es)

/-- The state in which the next step processes the word of `decodeTableWord` (log 8): the byte in bits 7:0, or the bytes of
a packet, at the head of the inbox, and the sequencing state the word names. -/
def setFetchWord (s : State) (nbits w : Nat) : State :=
  if nbits = 8 * Config.packetWidth then { s with inbox := rxEvents (bytesOfWord 134 w) ++ s.inbox }
  else
    match seqOfWord w with
    | .error _ => s
    | .ok q =>
      { s with runstate := q.runstate, phase := q.phase, fidx := q.fidx, scancnt := q.scancnt,
               inbox := .rx (BitVec.ofNat 8 w) :: s.inbox }

/-- The event the next step processes, taken from the inbox (20_memory.md R43: consumed, never seen again). -/
def State.popInbox (s : State) : State := { s with inbox := s.inbox.tail }

end Sys2Proof.Machine
end

