-- ==== Sys2Proof/Machine/Control.lean ====
section
/-! DEFINITION. The Controller's host operations (45_controller.md R121 to R124), `LINK.FAIL` (60_exceptions.md R146) and
`RESET` (70_reset_and_hazards.md R160). An event in a state where it has no function is ignored (30_encoding.md R69). -/

namespace Sys2Proof.Machine

/-- `CMD.START` (R121): acts in `IDLE` only; an illegal configuration is reported and refused (R148). -/
def execCmdStart (s : State) : Result :=
  if s.runstate ≠ .idle then .next s
  else if cfgLegal s.cfg = false then .next (raise .configInvalid s)
  else .next { sendStart s with runstate := .run }

/-- `CMD.STOP` (R122): acts in `RUN` only. -/
def execCmdStop (s : State) : Result :=
  if s.runstate ≠ .run then .next s else .next { sendStop s with runstate := .stopped }

/-- `CFG.WR` of `CFG_N` (R123). -/
def execCfgWrN (v : Half) (s : State) : Result := .next (cfgWr (.n v) s)

/-- `CFG.WR` of `CFG_OCC_ENTER` (R123). -/
def execCfgWrOccEnter (v : Half) (s : State) : Result := .next (cfgWr (.occEnter v) s)

/-- `CFG.WR` of `CFG_OCC_EXIT` (R123). -/
def execCfgWrOccExit (v : Half) (s : State) : Result := .next (cfgWr (.occExit v) s)

/-- `CFG.WR` of `CFG_MOT_ENTER` (R123). -/
def execCfgWrMotEnter (v : Half) (s : State) : Result := .next (cfgWr (.motEnter v) s)

/-- `CFG.WR` of `CFG_MOT_EXIT` (R123). -/
def execCfgWrMotExit (v : Half) (s : State) : Result := .next (cfgWr (.motExit v) s)

/-- `CFG.WR` of `CFG_ITER_LIMIT` (R123). -/
def execCfgWrIterLimit (v : Word) (s : State) : Result := .next (cfgWr (.iterLimit v) s)

/-- `CFG.WR` of `CFG_TRIG[i]` (R123). -/
def execCfgWrTrig (i : Fin 8) (valid : Bool) (count : Word) (s : State) : Result := .next (cfgWr (.trig i valid count) s)

/-- `RX.DROP` (R124): the byte is consumed and lost. -/
def execRxDrop (_b : Byte) (s : State) : Result := .next s

/-- `RESET` (R160), in any `RUNSTATE` and `PHASE`. -/
def execReset (s : State) : Result := .next (resetState s)

/-- `LINK.FAIL(tx_avail)` (R146): acts in `RUN` only. -/
def execLinkFail (txAvail : Bool) (s : State) : Result :=
  if s.runstate ≠ .run then .next s else .next (raise (.linkFailure txAvail) s)

end Sys2Proof.Machine
end

