-- ==== Sys2Proof/Machine/Pipeline.lean ====
section
/-! DEFINITION. The per-packet pipeline (45_controller.md R120) and the operations it invokes: frame decoder
(42_frame_decode.md), averager (43_averager.md), detectors (44_detectors.md), the two callbacks and the end of the
iteration (45_controller.md R125 to R127). An operation that yields a transient leaves it in `yielded` for the operation
that invoked it (10_state.md R35, log 4). -/

namespace Sys2Proof.Machine

/-- `DEC.FRAME` (R101): yields `F`; writes no state of the spec. -/
def decFrame (s : State) : State := s.yield (.frame (decodeFrame s.arrbuf))

/-- `ACC.EMIT` (R107): the snapshot of `SUM` and `CFG_N` is the averaged frame; the window starts anew. -/
def accEmit (s : State) : State :=
  { s with sum := Grid.all 0, samples := 0, yielded := .avg { S := s.sum, n := s.cfg.n } }

/-- `ACC.ADD(F)` (R106): one frame into the running sum; `ACC.EMIT` when the window is complete, else nothing is
yielded. -/
def accAdd (f : Frame) (s : State) : State :=
  let t := { s with sum := addFrame s.sum f, samples := s.samples + 1 }
  if t.samples = t.cfg.n then accEmit t else t.yield .nothing

/-- `OCC.UPD(A)` (R112). -/
def occUpd (a : Avg) (s : State) : State := { s with occ := occNext s.cfg a s.occ }

/-- `MOT.FIRST(A)` (R114): records the frame; `MOT` is not written. -/
def motFirst (a : Avg) (s : State) : State := { s with prev := a.S, prevvalid := true }

/-- `MOT.UPD(A)` (R115): `OCC` is the value this step's `OCC.UPD` wrote; `PREV` is replaced in every branch. -/
def motUpd (a : Avg) (s : State) : State := { s with mot := motNext s.cfg a s.prev s.occ s.mot, prev := a.S }

/-- `FRAME.OUT(A)` (R125). -/
def frameOut (a : Avg) (s : State) : State := s.emit (.frame a.S a.n s.occ s.mot s.pktcnt)

/-- `TRIG.CHK` (R126): exactly one `TRIG`, however many slots hold the count. -/
def trigChk (s : State) : State := if inTrigSet s.cfg s.pktcnt then s.emit (.trig s.pktcnt) else s

/-- The part of `PIPE.RUN` that runs when an average completed (R120, R116): `OCC.UPD`, then `MOT.FIRST` or `MOT.UPD`,
then `FRAME.OUT`. -/
def detect (a : Avg) (s : State) : State :=
  let t := occUpd a s
  frameOut a (if t.prevvalid then motUpd a t else motFirst a t)

/-- `PIPE.RUN`'s first line and a half (R120): `F <- DEC.FRAME`, `r <- ACC.ADD(F)`. -/
def decodeAndAdd (s : State) : State :=
  let t := decFrame s
  match t.yielded with
  | .frame f => accAdd f t
  | .nothing | .avg _ => t

/-- `PIPE.RUN`'s conditional (R120): the detectors and `FRAME.OUT` if `r` is an averaged frame. The transient is consumed. -/
def detectIfYielded (s : State) : State :=
  match s.yielded with
  | .avg a => detect a (s.yield .nothing)
  | .nothing | .frame _ => s.yield .nothing

/-- The lines of `PIPE.RUN` (R120), in their order. -/
def pipeline (s : State) : State := iterEnd (trigChk (detectIfYielded (decodeAndAdd s)))

/-- `PIPE.RUN` (R120), refused by name in the states of 93_implementation_defined.md X4, X3 and X6, which no run reaches
(log 6). -/
def runPipeline (s : State) : Result :=
  if cfgLegal s.cfg = false then .refused .illegalConfiguration
  else if s.cfg.n.toNat ≤ s.samples.toNat then .refused .windowOverrun
  else if s.mot ∧ s.prevvalid = false then .refused .motionWithoutPrevious
  else .next (pipeline s)

/-- `DEC.FRAME` (R101). -/
def execDecFrame (s : State) : Result := .next (decFrame s)

/-- `ACC.ADD(F)` (R106). -/
def execAccAdd (f : Frame) (s : State) : Result := .next (accAdd f s)

/-- `ACC.EMIT` (R107). -/
def execAccEmit (s : State) : Result := .next (accEmit s)

/-- `OCC.UPD(A)` (R112). -/
def execOccUpd (a : Avg) (s : State) : Result := .next (occUpd a s)

/-- `MOT.FIRST(A)` (R114). -/
def execMotFirst (a : Avg) (s : State) : Result := .next (motFirst a s)

/-- `MOT.UPD(A)` (R115). -/
def execMotUpd (a : Avg) (s : State) : Result := .next (motUpd a s)

/-- `FRAME.OUT(A)` (R125). -/
def execFrameOut (a : Avg) (s : State) : Result := .next (frameOut a s)

/-- `TRIG.CHK` (R126). -/
def execTrigChk (s : State) : Result := .next (trigChk s)

/-- `ITER.END` (R127). -/
def execIterEnd (s : State) : Result := .next (iterEnd s)

/-- `PIPE.RUN` (R120). -/
def execPipeRun (s : State) : Result := runPipeline s

end Sys2Proof.Machine
end

