-- ==== Sys2Proof/Machine/Packet.lean ====
section
/-! DEFINITION. The PacketReader operations and the checksum validator (41_packet_checksum.md R90 to R95), and the wire
formats (30_encoding.md R61, R64). -/

namespace Sys2Proof.Machine

/-- `RD.THERM` (R91). `FIDX` above 1 is no state of the block (93_implementation_defined.md X2). -/
def execRdTherm (b : Byte) (s : State) : Result :=
  if h : s.fidx.toNat < 2 then
    let t := { s with thermbuf := s.thermbuf.set s.fidx.toNat b, csumacc := addCsum s.csumacc b }
    .next (if s.fidx = 0 then { t with fidx := 1 } else { t with phase := .array, fidx := 0 })
  else .refused .unreachableSelection

/-- `RD.ARRAY` (R92). `FIDX` above 127 is no state of the block (X2). -/
def execRdArray (b : Byte) (s : State) : Result :=
  if h : s.fidx.toNat < 128 then
    let t := { s with arrbuf := s.arrbuf.set s.fidx.toNat b, csumacc := addCsum s.csumacc b }
    .next (if s.fidx.toNat < 127 then { t with fidx := s.fidx + 1 } else { t with phase := .csum, fidx := 0 })
  else .refused .unreachableSelection

/-- `PKT.REJECT(b)` (R94): `ChecksumError`, nothing else is written. -/
def rejectPacket (b : Byte) (s : State) : State := raise (.checksumError b s.csumacc) s

/-- `PKT.ACCEPT` (R95): `CounterOverflow` at `2^32 − 1`; else count the packet, decode the thermistor, run the pipeline. -/
def acceptPacket (s : State) : Result :=
  if s.pktcnt = 0xFFFFFFFF#32 then .next (raise .counterOverflow s)
  else runPipeline { s with pktcnt := s.pktcnt + 1, therm := halfOfBytes s.thermbuf[0] s.thermbuf[1] }

/-- `RD.CSUM` (R93): the verdict. The checksum byte is not added into `CSUMACC`. -/
def execRdCsum (b : Byte) (s : State) : Result :=
  if b = s.csumacc then acceptPacket s else .next (rejectPacket b s)

/-- `PKT.REJECT(b)` (R94). -/
def execPktReject (b : Byte) (s : State) : Result := .next (rejectPacket b s)

/-- `PKT.ACCEPT` (R95). -/
def execPktAccept (s : State) : Result := acceptPacket s

/-- `PACKET` (R61): the packet arrives on the RX stream: its 134 bytes, in increasing offset, wait behind the events
already waiting (R43, R70). MARK: DESIGN CHOICE (log 5), safe. -/
def execPacket (therm : Half) (vals : Vector Half 64) (s : State) : Result :=
  .next (s.deliver (rxEvents (encodePacket s.params therm vals)))

/-- `CTL.START` (R64): the byte `START_CMD` on the TX stream. MARK: DESIGN CHOICE (log 5), safe. -/
def execCtlStart (s : State) : Result := .next (sendStart s)

/-- `CTL.STOP` (R64): the byte `STOP_CMD` on the TX stream. MARK: DESIGN CHOICE (log 5), safe. -/
def execCtlStop (s : State) : Result := .next (sendStop s)

end Sys2Proof.Machine
end

