-- ==== Sys2Proof/Machine/Sync.lean ====
section
/-! DEFINITION. The StreamSynchronizer operations (40_sync.md R80 to R86). Each consumes one `RX` byte; R65 says when each
is selected. -/

namespace Sys2Proof.Machine

/-- One more byte consumed by the attempt (10_state.md R13). -/
def countScan (s : State) : State := { s with scancnt := s.scancnt + 1 }

/-- The 134th byte of an attempt that cannot succeed on it (R85): `SCANCNT <- 134`, then `SyncError` with sub-cause
`WINDOW`. -/
def exhaustWindow (s : State) : State := raise .syncWindow { s with scancnt := 134 }

/-- `SYNC.SKIP` (R81): the byte's value is not recorded anywhere. -/
def execSyncSkip (_b : Byte) (s : State) : Result := .next (countScan s)

/-- `SYNC.FIRST` (R82). -/
def execSyncFirst (_b : Byte) (s : State) : Result := .next { countScan s with phase := .confirm, fidx := 0 }

/-- `SYNC.CONF1` (R83): the verdict waits for the second byte. -/
def execSyncConf1 (b : Byte) (s : State) : Result :=
  .next { countScan s with confok := b == s.params.marker, fidx := 1 }

/-- `SYNC.CONF2` (R84): synchronized if both bytes after the first marker byte are `MARKER`, else `SyncError` with
sub-cause `CONFIRM`. -/
def execSyncConf2 (b : Byte) (s : State) : Result :=
  let t := countScan s
  if t.confok ∧ b = t.params.marker then .next { t with phase := .therm, fidx := 0, csumacc := 0 }
  else .next (raise .syncConfirm t)

/-- `SYNC.WINDOW` from `HUNT` (R85): any byte, `MARKER` included. -/
def execSyncWindowHunt (_b : Byte) (s : State) : Result := .next (exhaustWindow s)

/-- `SYNC.WINDOW` from `CONFIRM` with `FIDX = 0` (R85): sub-cause `WINDOW`, not `CONFIRM` (60_exceptions.md R150 (a)). -/
def execSyncWindowConfirm (_b : Byte) (s : State) : Result := .next (exhaustWindow s)

end Sys2Proof.Machine
end

