-- ==== Sys2Proof/Machine/Dispatch.lean ====
section
/-! DEFINITION. `exec`: one arm per constructor of `Instr`, each one call of that operation's own meaning. -/

namespace Sys2Proof.Machine

def exec (i : Instr) (s : State) : Host.Outcome State Fault Refusal :=
  match i with
  -- format RX
  | .syncSkip b => Sys2Proof.Machine.execSyncSkip b s
  | .syncFirst b => Sys2Proof.Machine.execSyncFirst b s
  | .syncWindowHunt b => Sys2Proof.Machine.execSyncWindowHunt b s
  | .syncConf1 b => Sys2Proof.Machine.execSyncConf1 b s
  | .syncWindowConfirm b => Sys2Proof.Machine.execSyncWindowConfirm b s
  | .syncConf2 b => Sys2Proof.Machine.execSyncConf2 b s
  | .rdTherm b => Sys2Proof.Machine.execRdTherm b s
  | .rdArray b => Sys2Proof.Machine.execRdArray b s
  | .rdCsum b => Sys2Proof.Machine.execRdCsum b s
  | .rxDrop b => Sys2Proof.Machine.execRxDrop b s
  -- format SEQ
  | .pktReject b => Sys2Proof.Machine.execPktReject b s
  | .pktAccept => Sys2Proof.Machine.execPktAccept s
  | .pipeRun => Sys2Proof.Machine.execPipeRun s
  | .decFrame => Sys2Proof.Machine.execDecFrame s
  | .accAdd f => Sys2Proof.Machine.execAccAdd f s
  | .accEmit => Sys2Proof.Machine.execAccEmit s
  | .occUpd a => Sys2Proof.Machine.execOccUpd a s
  | .motFirst a => Sys2Proof.Machine.execMotFirst a s
  | .motUpd a => Sys2Proof.Machine.execMotUpd a s
  | .frameOut a => Sys2Proof.Machine.execFrameOut a s
  | .trigChk => Sys2Proof.Machine.execTrigChk s
  | .iterEnd => Sys2Proof.Machine.execIterEnd s
  -- format HOST
  | .cmdStart => Sys2Proof.Machine.execCmdStart s
  | .cmdStop => Sys2Proof.Machine.execCmdStop s
  | .cfgWrN v => Sys2Proof.Machine.execCfgWrN v s
  | .cfgWrOccEnter v => Sys2Proof.Machine.execCfgWrOccEnter v s
  | .cfgWrOccExit v => Sys2Proof.Machine.execCfgWrOccExit v s
  | .cfgWrMotEnter v => Sys2Proof.Machine.execCfgWrMotEnter v s
  | .cfgWrMotExit v => Sys2Proof.Machine.execCfgWrMotExit v s
  | .cfgWrIterLimit v => Sys2Proof.Machine.execCfgWrIterLimit v s
  | .cfgWrTrig slot valid count => Sys2Proof.Machine.execCfgWrTrig slot valid count s
  | .reset => Sys2Proof.Machine.execReset s
  | .linkFail t => Sys2Proof.Machine.execLinkFail t s
  -- format WIRE
  | .packet therm vals => Sys2Proof.Machine.execPacket therm vals s
  | .ctlStart => Sys2Proof.Machine.execCtlStart s
  | .ctlStop => Sys2Proof.Machine.execCtlStop s

end Sys2Proof.Machine
end

