-- ==== Sys2Proof/Machine/Step.lean ====
section
/-! DEFINITION. One step: the processing of exactly one input event (00_scope.md section 5, 20_memory.md R42). The event is
taken from the inbox, R65 selects the operation, `exec` performs it. With nothing waiting the block does nothing (R43, R167;
log 2). -/

namespace Sys2Proof.Machine

def step (s : State) : Host.Outcome State Fault Refusal :=
  match s.inbox with
  | [] => .next s
  | e :: _ =>
    match select s.params s.seq e with
    | .ok i => exec i s.popInbox
    | .error _ => .refused .unreachableSelection

/-- The word of `decodeTableWord` stored where the next step finds it (log 8): its byte (or the packet's 134 bytes) at the
head of the inbox as `RX` events, under the sequencing state the word names. -/
def State.withFetchWord (s : State) (nbits w : Nat) : State := setFetchWord s nbits w

end Sys2Proof.Machine
end

