-- ==== Sys2Proof/Machine/Trace.lean ====
section
/-! DEFINITION. The trace notation of 30_encoding.md R70, as data: the items of an input sequence, their expansion into
input events, and the refusal of what the event type cannot express (R69, 93_implementation_defined.md X5). The written
form of an item (its characters) is not behaviour (92_eei_decisions.md D22) and is left out. -/

namespace Sys2Proof.Machine

/-- A packet as R70 writes it. -/
inductive PacketItem where
  /-- `PKT(t; v0, ..., v63)`: array values in wire order. -/
  | pkt (t : Int) (v : List Int)
  /-- `PKTC(t; v)`: all 64 array values equal. -/
  | pktC (t v : Int)
  /-- `PKTF(t; F)`: the decoded frame is the grid `F`, given row by row. -/
  | pktF (t : Int) (rows : List (List Int))
  deriving DecidableEq, Repr

/-- A register name as written after `CFGWR`. -/
inductive RegName where
  | cfgN
  | cfgOccEnter
  | cfgOccExit
  | cfgMotEnter
  | cfgMotExit
  | cfgIterLimit
  deriving DecidableEq, Repr

/-- An item of an input sequence (R70). -/
inductive Item where
  | reset
  | start
  | stop
  /-- `CFGWR <reg> <value>`. -/
  | cfgWr (reg : RegName) (value : Nat)
  /-- `CFGWR CFG_TRIG[i] valid=v count=c`. -/
  | cfgWrTrig (i valid count : Nat)
  /-- `RX b0 b1 ...`. -/
  | rx (bytes : List Nat)
  /-- `LINKFAIL tx=t`. -/
  | linkFail (tx : Nat)
  | packet (p : PacketItem)
  /-- `BAD(p)`: the packet with its last byte complemented. -/
  | bad (p : PacketItem)
  /-- `JUNK(n; x)`: `n` bytes each equal to `x`. -/
  | junk (n x : Nat)
  deriving DecidableEq, Repr

/-- A number as a field of `w` bits; refused when it does not fit. -/
def natField (w v : Nat) : Except DecodeRefusal (BitVec w) :=
  if v < 2 ^ w then .ok (BitVec.ofNat w v) else .error .valueTooWide

/-- A number as one bit. -/
def bitField (v : Nat) : Except DecodeRefusal Bool :=
  if v = 0 then .ok false else if v = 1 then .ok true else .error .valueTooWide

/-- A signed number as a 16-bit two's-complement value (R62). -/
def halfField (v : Int) : Except DecodeRefusal Half :=
  if -32768 ≤ v ∧ v ≤ 32767 then .ok (BitVec.ofInt 16 v) else .error .valueTooWide

/-- All the fields of a list, or the first refusal. -/
def fields {α β : Type} (f : α → Except DecodeRefusal β) : List α → Except DecodeRefusal (List β)
  | [] => .ok []
  | x :: xs =>
    match f x with
    | .error r => .error r
    | .ok y =>
      match fields f xs with
      | .error r => .error r
      | .ok ys => .ok (y :: ys)

/-- 64 array values in wire order. -/
def valuesField (v : List Int) : Except DecodeRefusal (Vector Half 64) :=
  match fields halfField v with
  | .error r => .error r
  | .ok ys => if h : ys.length = 64 then .ok ⟨⟨ys⟩, by simpa using h⟩ else .error .wrongShape

/-- The array values of `PKTF` (R70): `v[8r + 7 − c] = F[r][c]`, each row reversed. -/
def wireOrder (rows : List (List Int)) : Except DecodeRefusal (List Int) :=
  if rows.length = 8 ∧ rows.all (fun r => r.length == 8) then .ok (rows.flatMap List.reverse) else .error .wrongShape

/-- A frame as R70 writes a grid: row 0 first, each row from column 0 to column 7. -/
def writtenGrid (f : Frame) : List (List Int) :=
  (List.finRange 8).map fun r => (List.finRange 8).map fun c => (f.cell r c).toInt

/-- The thermistor value and the array values of a packet item. -/
def packetFields : PacketItem → Except DecodeRefusal (Half × Vector Half 64)
  | .pkt t v =>
    match halfField t, valuesField v with
    | .ok th, .ok vs => .ok (th, vs)
    | .error r, _ => .error r
    | .ok _, .error r => .error r
  | .pktC t v =>
    match halfField t, halfField v with
    | .ok th, .ok x => .ok (th, Vector.replicate 64 x)
    | .error r, _ => .error r
    | .ok _, .error r => .error r
  | .pktF t rows =>
    match halfField t, wireOrder rows with
    | .ok th, .ok v =>
      match valuesField v with
      | .ok vs => .ok (th, vs)
      | .error r => .error r
    | .error r, _ => .error r
    | .ok _, .error r => .error r

/-- `BAD(p)` on bytes (R70): the last byte replaced by its bitwise complement. -/
def complementLast : List Byte → List Byte
  | [] => []
  | [b] => [~~~b]
  | b :: bs => b :: complementLast bs

/-- The register write of `CFGWR <reg> <value>`: the value must have the register's width (R123). -/
def cfgField (reg : RegName) (value : Nat) : Except DecodeRefusal CfgWrite :=
  match reg with
  | .cfgN => (natField 16 value).map .n
  | .cfgOccEnter => (natField 16 value).map .occEnter
  | .cfgOccExit => (natField 16 value).map .occExit
  | .cfgMotEnter => (natField 16 value).map .motEnter
  | .cfgMotExit => (natField 16 value).map .motExit
  | .cfgIterLimit => (natField 32 value).map .iterLimit

/-- The register write of `CFGWR CFG_TRIG[i] valid=v count=c`; `i > 7` is refused (R69, X5). -/
def trigField (i valid count : Nat) : Except DecodeRefusal CfgWrite :=
  if h : i < 8 then
    match bitField valid, natField 32 count with
    | .ok v, .ok c => .ok (.trig ⟨i, h⟩ v c)
    | .error r, _ => .error r
    | .ok _, .error r => .error r
  else .error .noSuchRegister

/-- The input events an item stands for (R70). Total; rejects by name. -/
def expandItem (p : Params) : Item → Except DecodeRefusal (List Event)
  | .reset => .ok [.reset]
  | .start => .ok [.start]
  | .stop => .ok [.stop]
  | .cfgWr reg value => (cfgField reg value).map fun w => [.cfgWr w]
  | .cfgWrTrig i valid count => (trigField i valid count).map fun w => [.cfgWr w]
  | .rx bytes => (fields (natField 8) bytes).map rxEvents
  | .linkFail tx => (bitField tx).map fun t => [.linkFail t]
  | .packet k => (packetFields k).map fun (t, v) => rxEvents (encodePacket p t v)
  | .bad k => (packetFields k).map fun (t, v) => rxEvents (complementLast (encodePacket p t v))
  | .junk n x => (natField 8 x).map fun b => rxEvents (List.replicate n b)

/-- The events of an input sequence: its items in order. -/
def expandItems (p : Params) (items : List Item) : Except DecodeRefusal (List Event) :=
  (fields (expandItem p) items).map List.flatten

/-- The item that writes an event down. -/
def itemOfEvent : Event → Item
  | .reset => .reset
  | .start => .start
  | .stop => .stop
  | .rx b => .rx [b.toNat]
  | .linkFail t => .linkFail t.toNat
  | .cfgWr (.n v) => .cfgWr .cfgN v.toNat
  | .cfgWr (.occEnter v) => .cfgWr .cfgOccEnter v.toNat
  | .cfgWr (.occExit v) => .cfgWr .cfgOccExit v.toNat
  | .cfgWr (.motEnter v) => .cfgWr .cfgMotEnter v.toNat
  | .cfgWr (.motExit v) => .cfgWr .cfgMotExit v.toNat
  | .cfgWr (.iterLimit v) => .cfgWr .cfgIterLimit v.toNat
  | .cfgWr (.trig i valid count) => .cfgWrTrig i.val valid.toNat count.toNat

end Sys2Proof.Machine
end

