-- ==== Sys2Proof/Safety.lean ====
section
/-! DEFINITION. The terms in which claims are stated: the invariant of 10_state.md R37, the law of the running checksum
(41_packet_checksum.md R97), the history of the accepted frames (43_averager.md R108), sequences of
`MOT.UPD` (44_detectors.md R117), the state an iteration's end leaves (45_controller.md R127) in closed form, and the order of a
step's outputs (60_exceptions.md R151). Nothing here is used by the machine. -/

namespace Sys2Proof.Machine

/-- The ranges of the sequencing state between steps (10_state.md R14, R37 items 3 and 4). -/
def SeqRange (s : State) : Prop :=
  match s.phase with
  | .hunt => s.fidx = 0 ∧ s.scancnt.toNat ≤ 133
  | .confirm =>
    (s.fidx = 0 ∧ 1 ≤ s.scancnt.toNat ∧ s.scancnt.toNat ≤ 133) ∨ (s.fidx = 1 ∧ 2 ≤ s.scancnt.toNat ∧ s.scancnt.toNat ≤ 133)
  | .therm => s.fidx.toNat ≤ 1 ∧ s.scancnt.toNat ≤ 134
  | .array => s.fidx.toNat ≤ 127 ∧ s.scancnt.toNat ≤ 134
  | .csum => s.fidx = 0 ∧ s.scancnt.toNat ≤ 134

/-- What holds between any two steps, from reset on, for every input sequence (10_state.md R37), with R35's transients
empty, the parameters' one constraint (00_scope.md R6) and 43_averager.md R108's count of the window. -/
structure Inv (s : State) : Prop where
  /-- `START_CMD != STOP_CMD` (00_scope.md R6). -/
  paramsLegal : s.params.legal
  /-- R37 item 8: in `IDLE` all of the non-configuration state holds its reset value. -/
  idleIsReset :
    s.runstate = .idle → s = { State.reset with cfg := s.cfg, params := s.params, inbox := s.inbox, outbox := s.outbox }
  /-- The configuration was legal when the run started and is frozen since (R37 item 1). -/
  runIsLegal : s.runstate ≠ .idle → cfgLegal s.cfg = true
  /-- R37 item 1: `0 <= SAMPLES < CFG_N` outside `IDLE`. -/
  samplesInWindow : s.runstate ≠ .idle → s.samples.toNat < s.cfg.n.toNat
  /-- R108: `SAMPLES` is the packet count modulo `CFG_N`. -/
  samplesCount : s.runstate ≠ .idle → s.samples.toNat = s.pktcnt.toNat % s.cfg.n.toNat
  /-- R37 item 2: `|SUM[r][c]| <= SAMPLES × 32768`. -/
  sumBound : ∀ r c, (s.sum.cell r c).toInt.natAbs ≤ s.samples.toNat * 32768
  /-- The previous averaged frame is a sum of `CFG_N` frames (R32, R37 item 2). -/
  prevBound : s.prevvalid = true → ∀ r c, (s.prev.cell r c).toInt.natAbs ≤ s.cfg.n.toNat * 32768
  /-- R37 items 3 and 4. -/
  seqRange : SeqRange s
  /-- R37 item 6, with a limit. -/
  iterBound : s.cfg.iterLimit ≠ 0 → s.itercnt.toNat ≤ s.cfg.iterLimit.toNat
  /-- R37 item 6: the limit is reached only outside `RUN`. -/
  iterReached : s.cfg.iterLimit ≠ 0 → s.itercnt = s.cfg.iterLimit → s.runstate ≠ .run
  /-- R37 item 6, without a limit. -/
  iterUnlimited : s.cfg.iterLimit = 0 → s.itercnt = 0
  /-- R37 item 7. -/
  motNeedsPrev : s.mot = true → s.prevvalid = true
  /-- R35: no transient is held between steps. -/
  nothingYielded : s.yielded = .nothing

/-- The data bytes of the current packet read so far (41_packet_checksum.md R97). -/
def dataSoFar (s : State) : List Byte :=
  match s.phase with
  | .hunt | .confirm => []
  | .therm => s.thermbuf.toList.take s.fidx.toNat
  | .array => s.thermbuf.toList ++ s.arrbuf.toList.take s.fidx.toNat
  | .csum => s.thermbuf.toList ++ s.arrbuf.toList

/-- R97: while a packet is read, `CSUMACC` is the checksum of the data bytes read so far. -/
def ChecksumLaw (s : State) : Prop :=
  s.phase = .therm ∨ s.phase = .array ∨ s.phase = .csum → s.csumacc = checksum (dataSoFar s)

/-- The frame of the packet that the next step accepts, if it accepts one (41_packet_checksum.md R93, R95). -/
def acceptedFrame (s : State) : Option Frame :=
  if s.runstate = .run ∧ s.phase = .csum ∧ s.inbox.head? = some (.rx s.csumacc) ∧ s.pktcnt ≠ 0xFFFFFFFF#32 then
    some (decodeFrame s.arrbuf)
  else none

/-- The frames accepted since reset, newest first, after the next step, given those before it. -/
def framesAfter (s : State) (frames : List Frame) : List Frame :=
  if s.inbox.head? = some .reset then [] else (acceptedFrame s).toList ++ frames

/-- Cell `[r][c]` of the sum of the newest `k` frames. -/
def sumOfNewest (frames : List Frame) (k : Nat) (r c : Fin 8) : Int :=
  ((frames.take k).map fun f => (f.cell r c).toInt).sum

/-- `frames` are the frames accepted since reset, newest first, as the state sees them: `PKTCNT` counts them (10_state.md
R20), and `SUM` is the sum of the last `SAMPLES` of them (R37 item 2, 43_averager.md R108). -/
def FrameHistory (frames : List Frame) (s : State) : Prop :=
  frames.length = s.pktcnt.toNat ∧ ∀ r c, (s.sum.cell r c).toInt = sumOfNewest frames s.samples.toNat r c

/-- `MOT.UPD` on each averaged frame in turn, `OCC` being in each step the bit that stands with the frame. -/
def feedMotion : List (Bool × Avg) → State → Result
  | [], s => .next s
  | (occ, a) :: rest, s =>
    match exec (.motUpd a) { s with occ := occ } with
    | .next t => feedMotion rest t
    | .fault r => .fault r
    | .refused r => .refused r

/-- Each frame's motion measure against the frame just before it (44_detectors.md R115 (e)), the first one's against `prev`,
lies between the exit and the enter threshold, both included (R117 (b)). -/
def InMotionBand (c : CfgRegs) : SumGrid → List Avg → Prop
  | _, [] => True
  | prev, a :: rest =>
    motBound a.n c.motExit ≤ qmot a.S prev ∧ qmot a.S prev ≤ motBound a.n c.motEnter ∧ InMotionBand c a.S rest

/-- The iteration that ends now is the last one the limit allows (45_controller.md R127). -/
def lastIteration (s : State) : Bool := s.cfg.iterLimit != 0 && s.itercnt + 1 == s.cfg.iterLimit

/-- The state an iteration's end leaves (R127) after the iteration emitted `report`, in closed form: back to `HUNT`, the
iteration counted if a limit is set, and `TX(STOP_CMD)` last and `STOPPED` if the limit is reached. -/
def afterIteration (s : State) (report : List Output) : State :=
  { s with
    phase := .hunt
    fidx := 0
    scancnt := 0
    confok := false
    itercnt := if s.cfg.iterLimit = 0 then s.itercnt else s.itercnt + 1
    runstate := if lastIteration s then .stopped else s.runstate
    outbox := s.outbox ++ report ++ (if lastIteration s then [.tx s.params.stopCmd] else []) }

/-- The state after a packet was counted and its thermistor decoded, before the pipeline runs (41_packet_checksum.md R95):
`THERM = {THERMBUF[1], THERMBUF[0]}`. -/
def afterCount (s : State) : State :=
  { s with pktcnt := s.pktcnt + 1, therm := s.thermbuf[1] ++ s.thermbuf[0] }

/-- The `TRIG` events of a step that leaves the count `cnt` (45_controller.md R126). -/
def triggerReport (c : CfgRegs) (cnt : Word) : List Output := if inTrigSet c cnt then [.trig cnt] else []

/-- The place of an output event in the order of one step (60_exceptions.md R151). -/
def outputRank : Output → Nat
  | .err _ _ => 0
  | .frame _ _ _ _ _ => 1
  | .trig _ => 2
  | .tx _ => 3

/-- The pipeline can run: the state is none of those that 93_implementation_defined.md X3, X4 and X6 refuse. -/
def PipelineReady (s : State) : Prop :=
  cfgLegal s.cfg = true ∧ s.samples.toNat < s.cfg.n.toNat ∧ (s.mot = true → s.prevvalid = true)

/-- A safe step: it answers a next state in which the invariant holds again. -/
def SafeStep (s : State) : Prop := ∃ t, step s = .next t ∧ Inv t

end Sys2Proof.Machine
end

