-- ==== Sys2Proof/Certificates/Slice0/Obligations.lean ====
section
/-! DEFINITION. The statements for the provers. Each docstring names the rule of spec/ the statement formalises, or says
that it is derived. `OBLIGATIONS.json` lists them in the same order. -/

open Sys2Proof Sys2Proof.Machine

/-! ### The step and the decoders -/

/-- R42, R43, R65: a step takes the oldest waiting event and performs the operation it selects. With nothing waiting
nothing changes: the model's choice (log 2) over R43, "the block does nothing between events". -/
def Obligations.StepRunsTheSelectedOperation : Prop :=
  (∀ (s : State) (e : Event) (rest : List Event) (i : Instr),
    s.inbox = e :: rest → select s.params s.seq e = .ok i → step s = exec i { s with inbox := rest }) ∧
  (∀ s : State, s.inbox = [] → step s = .next s)

/-- A few words written out from the spec (R65, R64; the model's word layout of log 8), under the example parameters of
95_test_vectors.md section 1. -/
def Obligations.SampleWordsDecodeRight : Prop :=
  decodeTableWord 8 0x2A = some (.rxDrop 0x2A) ∧
  decodeTableWord 32 (0x48 + 1 * 2 ^ 8 + 3 * 2 ^ 10 + 5 * 2 ^ 13) = some (.rdArray 0x48) ∧
  decodeTableWord 32 (1 * 2 ^ 8 + 5 * 2 ^ 10) = none ∧
  select ⟨0x2A, 0xA1, 0xA0⟩ ⟨.run, .hunt, 0, 132⟩ (.rx 0x2A) = .ok (.syncFirst 0x2A) ∧
  select ⟨0x2A, 0xA1, 0xA0⟩ ⟨.run, .hunt, 0, 132⟩ (.rx 0x00) = .ok (.syncSkip 0x00) ∧
  select ⟨0x2A, 0xA1, 0xA0⟩ ⟨.run, .confirm, 0, 133⟩ (.rx 0x2A) = .ok (.syncWindowConfirm 0x2A) ∧
  decodeWire ⟨0x2A, 0xA1, 0xA0⟩ [0xA1] = .ok .ctlStart ∧
  decodeWire ⟨0x2A, 0xA1, 0xA0⟩ [0xA0] = .ok .ctlStop ∧
  decodeWire ⟨0x2A, 0xA1, 0xA0⟩ [0x2A] = .error .unknownControl

/-- R70, R69: the item that writes an event down expands to exactly that event, and several bytes to their events in
order; the pseudo-items expand to the bytes R70 gives them (`PKTF` to the packet with `v[8r + 7 − c] = F[r][c]`, `BAD` to
the packet with its last byte complemented); a ninth trigger slot, a number that does not fit its field and a list or grid
of another shape are refused. The items as data, and the names of the refusals, are the model's (log 12). -/
def Obligations.TraceItemsWriteEventsDown : Prop :=
  ∀ p : Params,
    (∀ e : Event, expandItem p (itemOfEvent e) = .ok [e]) ∧
    (∀ bytes : List Byte, expandItem p (.rx (bytes.map BitVec.toNat)) = .ok (bytes.map .rx)) ∧
    (∀ (therm : Half) (vals : Vector Half 64),
      expandItem p (.packet (.pkt therm.toInt (vals.toList.map BitVec.toInt))) =
        .ok ((encodePacket p therm vals).map .rx)) ∧
    (∀ therm v : Half,
      expandItem p (.packet (.pktC therm.toInt v.toInt)) =
        .ok ((encodePacket p therm (Vector.replicate 64 v)).map .rx)) ∧
    (∀ (therm : Half) (f : Frame) (vals : Vector Half 64), (∀ r c, vals[8 * r.val + 7 - c.val] = f.cell r c) →
      expandItem p (.packet (.pktF therm.toInt (writtenGrid f))) = .ok ((encodePacket p therm vals).map .rx)) ∧
    (∀ (k : PacketItem) (bytes : List Byte), expandItem p (.packet k) = .ok (bytes.map .rx) →
      bytes.length = 134 ∧ expandItem p (.bad k) = .ok ((bytes.set 133 (byteAt bytes 133 ^^^ 0xFF)).map .rx)) ∧
    (∀ (n : Nat) (b : Byte), expandItem p (.junk n b.toNat) = .ok (List.replicate n (.rx b))) ∧
    (∀ i v c : Nat, 7 < i → expandItem p (.cfgWrTrig i v c) = .error .noSuchRegister) ∧
    (∀ i v c : Nat, i ≤ 7 → 1 < v ∨ 2 ^ 32 ≤ c → expandItem p (.cfgWrTrig i v c) = .error .valueTooWide) ∧
    (∀ (reg : RegName) (v : Nat), (if reg = .cfgIterLimit then 2 ^ 32 else 2 ^ 16) ≤ v →
      expandItem p (.cfgWr reg v) = .error .valueTooWide) ∧
    (∀ bytes : List Nat, (∃ b ∈ bytes, 256 ≤ b) → expandItem p (.rx bytes) = .error .valueTooWide) ∧
    (∀ n x : Nat, 256 ≤ x → expandItem p (.junk n x) = .error .valueTooWide) ∧
    (∀ t : Nat, 1 < t → expandItem p (.linkFail t) = .error .valueTooWide) ∧
    (∀ (t x : Int) (v : List Int) (rows : List (List Int)), (t < -32768 ∨ 32767 < t) →
      expandItem p (.packet (.pkt t v)) = .error .valueTooWide ∧
      expandItem p (.packet (.pktC t x)) = .error .valueTooWide ∧
      expandItem p (.packet (.pktF t rows)) = .error .valueTooWide ∧
      expandItem p (.packet (.pktC x t)) = .error .valueTooWide ∧
      (t ∈ v → expandItem p (.packet (.pkt x v)) = .error .valueTooWide) ∧
      (rows.length = 8 → (∀ row ∈ rows, row.length = 8) → t ∈ rows.flatten →
        expandItem p (.packet (.pktF x rows)) = .error .valueTooWide)) ∧
    (∀ (therm : Half) (v : List Half), v.length ≠ 64 →
      expandItem p (.packet (.pkt therm.toInt (v.map BitVec.toInt))) = .error .wrongShape) ∧
    (∀ (therm : Half) (rows : List (List Int)), (rows.length ≠ 8 ∨ ∃ row ∈ rows, row.length ≠ 8) →
      expandItem p (.packet (.pktF therm.toInt rows)) = .error .wrongShape) ∧
    (∀ (k : PacketItem) (r : DecodeRefusal), expandItem p (.packet k) = .error r → expandItem p (.bad k) = .error r)

/-! ### The synchronizer -/

/-- R81: `SYNC.SKIP`. -/
def Obligations.SyncSkipCountsTheByte : Prop :=
  ∀ (s : State) (b : Byte),
    s.runstate = .run → s.phase = .hunt → s.fidx = 0 → s.scancnt.toNat ≤ 132 → b ≠ s.params.marker →
    select s.params s.seq (.rx b) = .ok (.syncSkip b) ∧
    exec (.syncSkip b) s = .next { s with scancnt := s.scancnt + 1 } ∧
    (s.scancnt + 1).toNat = s.scancnt.toNat + 1

/-- R82: `SYNC.FIRST`. -/
def Obligations.SyncFirstEntersConfirm : Prop :=
  ∀ (s : State) (b : Byte),
    s.runstate = .run → s.phase = .hunt → s.fidx = 0 → s.scancnt.toNat ≤ 132 → b = s.params.marker →
    select s.params s.seq (.rx b) = .ok (.syncFirst b) ∧
    exec (.syncFirst b) s = .next { s with scancnt := s.scancnt + 1, phase := .confirm, fidx := 0 } ∧
    (s.scancnt + 1).toNat = s.scancnt.toNat + 1

/-- R83: `SYNC.CONF1`. -/
def Obligations.SyncConf1RecordsTheComparison : Prop :=
  ∀ (s : State) (b : Byte),
    s.runstate = .run → s.phase = .confirm → s.fidx = 0 → 1 ≤ s.scancnt.toNat → s.scancnt.toNat ≤ 132 →
    select s.params s.seq (.rx b) = .ok (.syncConf1 b) ∧
    exec (.syncConf1 b) s =
      .next { s with scancnt := s.scancnt + 1, confok := decide (b = s.params.marker), fidx := 1 } ∧
    (s.scancnt + 1).toNat = s.scancnt.toNat + 1

/-- R84: `SYNC.CONF2`, success and failure. -/
def Obligations.SyncConf2GivesTheVerdict : Prop :=
  ∀ (s : State) (b : Byte),
    s.runstate = .run → s.phase = .confirm → s.fidx = 1 → 2 ≤ s.scancnt.toNat → s.scancnt.toNat ≤ 133 →
    select s.params s.seq (.rx b) = .ok (.syncConf2 b) ∧
    exec (.syncConf2 b) s =
      (if s.confok = true ∧ b = s.params.marker then
        .next { s with scancnt := s.scancnt + 1, phase := .therm, fidx := 0, csumacc := 0 }
      else .next (afterIteration s [.err 1 1])) ∧
    (s.scancnt + 1).toNat = s.scancnt.toNat + 1

/-- R85: `SYNC.WINDOW`, from `HUNT` and from `CONFIRM`, for every byte. -/
def Obligations.SyncWindowFailsTheAttempt : Prop :=
  ∀ (s : State) (b : Byte),
    s.runstate = .run → s.scancnt = 133 → s.fidx = 0 →
    (s.phase = .hunt →
      select s.params s.seq (.rx b) = .ok (.syncWindowHunt b) ∧
      exec (.syncWindowHunt b) s = .next (afterIteration s [.err 1 0])) ∧
    (s.phase = .confirm →
      select s.params s.seq (.rx b) = .ok (.syncWindowConfirm b) ∧
      exec (.syncWindowConfirm b) s = .next (afterIteration s [.err 1 0]))

/-! ### The packet reader -/

/-- R91: `RD.THERM`, both bytes. -/
def Obligations.RdThermStoresTheByte : Prop :=
  ∀ (s : State) (b : Byte), s.runstate = .run → s.phase = .therm →
    (s.fidx = 0 →
      select s.params s.seq (.rx b) = .ok (.rdTherm b) ∧
      exec (.rdTherm b) s =
        .next { s with thermbuf := s.thermbuf.set 0 b,
                       csumacc := BitVec.ofNat 8 ((s.csumacc.toNat + b.toNat) % 256), fidx := 1 }) ∧
    (s.fidx = 1 →
      select s.params s.seq (.rx b) = .ok (.rdTherm b) ∧
      exec (.rdTherm b) s =
        .next { s with thermbuf := s.thermbuf.set 1 b,
                       csumacc := BitVec.ofNat 8 ((s.csumacc.toNat + b.toNat) % 256), phase := .array, fidx := 0 })

/-- R92: `RD.ARRAY`, every index. -/
def Obligations.RdArrayStoresTheByte : Prop :=
  ∀ (s : State) (b : Byte) (h : s.fidx.toNat < 128), s.runstate = .run → s.phase = .array →
    select s.params s.seq (.rx b) = .ok (.rdArray b) ∧
    exec (.rdArray b) s =
      .next { s with arrbuf := s.arrbuf.set s.fidx.toNat b,
                     csumacc := BitVec.ofNat 8 ((s.csumacc.toNat + b.toNat) % 256),
                     phase := if s.fidx.toNat < 127 then .array else .csum,
                     fidx := if s.fidx.toNat < 127 then s.fidx + 1 else 0 }

/-- R93: `RD.CSUM` accepts exactly when the byte equals `CSUMACC`; after it the block is back in `HUNT` unless the run
ended. -/
def Obligations.RdCsumComparesExactly : Prop :=
  ∀ (s : State) (b : Byte), s.runstate = .run → s.phase = .csum → s.fidx = 0 →
    select s.params s.seq (.rx b) = .ok (.rdCsum b) ∧
    (b = s.csumacc → exec (.rdCsum b) s = exec .pktAccept s) ∧
    (b ≠ s.csumacc → exec (.rdCsum b) s = exec (.pktReject b) s ∧
      exec (.rdCsum b) s = .next (afterIteration s [.err 2 (b ++ s.csumacc)])) ∧
    (∀ t, exec (.rdCsum b) s = .next t → t.phase = .hunt ∨ t.runstate ≠ .run)

/-- R94, R145: `PKT.REJECT(b)` reports `ChecksumError` and ends the iteration; nothing else is written.
In a state from which `RD.CSUM` does not invoke it this is the model's choice (log 7). -/
def Obligations.PktRejectDiscardsThePacket : Prop :=
  ∀ (s : State) (b : Byte), exec (.pktReject b) s = .next (afterIteration s [.err 2 (b ++ s.csumacc)])

/-- R95, R147: below the counter's maximum `PKT.ACCEPT` counts the packet, decodes the thermistor and runs the pipeline, to
completion where the pipeline is ready, and `RD.CSUM` of the matching byte with it; at the maximum the packet is not
counted and the run is halted. -/
def Obligations.PktAcceptCountsAndRunsThePipeline : Prop :=
  ∀ s : State,
    (s.pktcnt ≠ 0xFFFFFFFF#32 →
      exec .pktAccept s = exec .pipeRun (afterCount s) ∧
      (afterCount s).pktcnt.toNat = s.pktcnt.toNat + 1 ∧
      (afterCount s).therm.toInt = (s.thermbuf[0].toNat : Int) + 256 * (s.thermbuf[1].toNat : Int) -
        (if 128 ≤ s.thermbuf[1].toNat then 65536 else 0) ∧
      (PipelineReady s → ∃ t, exec .pktAccept s = .next t ∧ exec (.rdCsum s.csumacc) s = .next t)) ∧
    (s.pktcnt = 0xFFFFFFFF#32 →
      exec .pktAccept s =
        .next { s with runstate := .halted, outbox := s.outbox ++ [.err 5 0, .tx s.params.stopCmd] })

/-! ### The pipeline -/

/-- R120, R116: a packet that does not complete the window is added; no detector runs and no `FRAME` is emitted; the
trigger check and the iteration's end follow. -/
def Obligations.PipeRunInsideTheWindow : Prop :=
  ∀ s : State, PipelineReady s → s.samples.toNat + 1 < s.cfg.n.toNat →
    exec .pipeRun s =
      .next (afterIteration
        { s with sum := addFrame s.sum (decodeFrame s.arrbuf), samples := s.samples + 1, yielded := .nothing }
        (triggerReport s.cfg s.pktcnt))

/-- R120, R116: a packet that completes the window runs `OCC.UPD`, then `MOT.FIRST` or `MOT.UPD` with the new `OCC`, then
`FRAME.OUT` with the new flags; the trigger check and the iteration's end follow. -/
def Obligations.PipeRunCompletesTheWindow : Prop :=
  ∀ (s : State) (a : Avg) (occ mot : Bool), PipelineReady s → s.samples.toNat + 1 = s.cfg.n.toNat →
    a = { S := addFrame s.sum (decodeFrame s.arrbuf), n := s.cfg.n } →
    occ = occNext s.cfg a s.occ →
    mot = (if s.prevvalid then motNext s.cfg a s.prev occ s.mot else s.mot) →
    exec .pipeRun s =
      .next (afterIteration
        { s with sum := Grid.all 0, samples := 0, occ := occ, mot := mot, prev := a.S, prevvalid := true,
                 yielded := .nothing }
        (.frame a.S a.n occ mot s.pktcnt :: triggerReport s.cfg s.pktcnt))

/-- R101: `DEC.FRAME` yields (log 4: in `yielded`) the frame whose cell `[r][c]` is array value `8r + 7 − c`, low byte
first; it writes no state of the spec. In a state from which `PIPE.RUN` does not invoke it: log 7. -/
def Obligations.DecFrameUnpacksAndMirrors : Prop :=
  ∀ s : State, ∃ f : Frame,
    exec .decFrame s = .next { s with yielded := .frame f } ∧
    ∀ (r c : Fin 8) (k : Nat) (hk : k = 8 * r.val + (7 - c.val)),
      f.cell r c = (s.arrbuf[2 * k + 1]'(by omega)) ++ (s.arrbuf[2 * k]'(by omega))

/-- R106: `ACC.ADD(F)` adds every cell, sign-extended (exact for the sums a window can hold, R30), counts the frame, and
emits when the window is complete; what it yields stands in `yielded` (log 4). In a state
from which `PIPE.RUN` does not invoke it this is the model's choice (log 7). -/
def Obligations.AccAddAddsEveryCell : Prop :=
  ∀ (s : State) (f : Frame), ∃ g : SumGrid,
    (∀ r c, g.cell r c = s.sum.cell r c + (f.cell r c).signExtend 32) ∧
    (∀ r c, (s.sum.cell r c).toInt.natAbs ≤ 65534 * 32768 →
      (g.cell r c).toInt = (s.sum.cell r c).toInt + (f.cell r c).toInt) ∧
    (s.samples + 1 ≠ s.cfg.n →
      exec (.accAdd f) s = .next { s with sum := g, samples := s.samples + 1, yielded := .nothing }) ∧
    (s.samples + 1 = s.cfg.n →
      exec (.accAdd f) s = exec .accEmit { s with sum := g, samples := s.samples + 1 } ∧
      exec (.accAdd f) s =
        .next { s with sum := Grid.all 0, samples := 0, yielded := .avg { S := g, n := s.cfg.n } })

/-- R107: `ACC.EMIT` yields (log 4: in `yielded`) the snapshot of `SUM` over `CFG_N` and clears `SUM` and `SAMPLES`.
In a state from which `ACC.ADD` does not invoke it this is the model's choice (log 7). -/
def Obligations.AccEmitSnapshotsAndClears : Prop :=
  ∀ s : State,
    exec .accEmit s =
      .next { s with sum := Vector.replicate 64 0, samples := 0, yielded := .avg { S := s.sum, n := s.cfg.n } } ∧
    ∀ r c, Avg.value { S := s.sum, n := s.cfg.n } r c = ((s.sum.cell r c).toInt : Rat) / (s.cfg.n.toNat : Rat)

/-- R112: `OCC.UPD(A)`, with `T` and `QOCC` written out. In a state from which `PIPE.RUN` does not invoke it this is the
model's choice (log 7). -/
def Obligations.OccUpdAppliesBothThresholds : Prop :=
  ∀ (s : State) (a : Avg) (T Q : Int),
    T = ∑ r : Fin 8, ∑ c : Fin 8, (a.S.cell r c).toInt →
    Q = 64 * (∑ r : Fin 8, ∑ c : Fin 8, (a.S.cell r c).toInt ^ 2) - T ^ 2 →
    exec (.occUpd a) s =
      .next { s with occ :=
        if Q > 64 * (a.n.toNat : Int) ^ 2 * (s.cfg.occEnter.toNat : Int) ^ 2 then true
        else if Q < 64 * (a.n.toNat : Int) ^ 2 * (s.cfg.occExit.toNat : Int) ^ 2 then false
        else s.occ }

/-- Derived from R114 and R37: `MOT.FIRST(A)` records the frame and does not write `MOT`. Where R114 selects it
(`PREVVALID = 0`), in a state with R37 item 7 (`MOT = 1` implies `PREVVALID = 1`, a clause of `Inv`), `MOT` is 0 before it
and after it. With `PREVVALID = 1`, or where `PIPE.RUN` does not invoke it, the first clause is the model's choice (log 7). -/
def Obligations.MotFirstRecordsTheFrame : Prop :=
  ∀ (s : State) (a : Avg),
    exec (.motFirst a) s = .next { s with prev := a.S, prevvalid := true } ∧
    ((s.mot = true → s.prevvalid = true) → s.prevvalid = false →
      ∃ t, exec (.motFirst a) s = .next t ∧ s.mot = false ∧ t.mot = false)

/-- R115: `MOT.UPD(A)`, with `QMOT` written out: entry gated by `OCC`, `PREV` always replaced. R115 selects it with
`PREVVALID = 1`; with `PREVVALID = 0`, or where `PIPE.RUN` does not invoke it, this is the model's choice (log 7). -/
def Obligations.MotUpdGatesEntryOnly : Prop :=
  ∀ (s : State) (a : Avg) (Q : Int),
    Q = ∑ r : Fin 8, ∑ c : Fin 8, ((a.S.cell r c).toInt - (s.prev.cell r c).toInt) ^ 2 →
    exec (.motUpd a) s =
      .next { s with
        prev := a.S
        mot :=
          if Q > (a.n.toNat : Int) ^ 2 * (s.cfg.motEnter.toNat : Int) ^ 2 then (if s.occ then true else s.mot)
          else if Q < (a.n.toNat : Int) ^ 2 * (s.cfg.motExit.toNat : Int) ^ 2 then false
          else s.mot }

/-- R125: `FRAME.OUT(A)` emits the frame callback and writes no state. In a state from which `PIPE.RUN` does not invoke
it this is the model's choice (log 7). -/
def Obligations.FrameOutEmitsTheCallback : Prop :=
  ∀ (s : State) (a : Avg),
    exec (.frameOut a) s = .next { s with outbox := s.outbox ++ [.frame a.S a.n s.occ s.mot s.pktcnt] }

/-- R126, R26: `TRIG.CHK` emits exactly one `TRIG` when some valid slot holds the count, and nothing otherwise. In a
state from which `PIPE.RUN` does not invoke it this is the model's choice (log 7). -/
def Obligations.TrigChkFiresOncePerMatch : Prop :=
  ∀ s : State,
    ((∃ i : Fin 8, s.cfg.trig[i.val].valid = true ∧ s.cfg.trig[i.val].count = s.pktcnt) →
      exec .trigChk s = .next { s with outbox := s.outbox ++ [.trig s.pktcnt] }) ∧
    ((∀ i : Fin 8, s.cfg.trig[i.val].valid = true → s.cfg.trig[i.val].count ≠ s.pktcnt) →
      exec .trigChk s = .next s)

/-- R127: `ITER.END`. In a state from which no pipeline and no error entry invokes it this is the model's choice (log 7). -/
def Obligations.IterEndRewindsAndCounts : Prop :=
  ∀ s : State, exec .iterEnd s = .next (afterIteration s [])

/-! ### Host and link events -/

/-- R121: `CMD.START`: ignored outside `IDLE`; refused with `ERR(4, 0)` on an illegal configuration; else `START_CMD` is
sent and the run begins. -/
def Obligations.CmdStartBeginsALegalRun : Prop :=
  ∀ s : State,
    select s.params s.seq .start = .ok .cmdStart ∧
    (s.runstate = .idle → 1 ≤ s.cfg.n.toNat → s.cfg.occExit.toNat ≤ s.cfg.occEnter.toNat →
      s.cfg.motExit.toNat ≤ s.cfg.motEnter.toNat →
      exec .cmdStart s = .next { s with runstate := .run, outbox := s.outbox ++ [.tx s.params.startCmd] }) ∧
    (s.runstate = .idle →
      (s.cfg.n = 0 ∨ s.cfg.occEnter.toNat < s.cfg.occExit.toNat ∨ s.cfg.motEnter.toNat < s.cfg.motExit.toNat) →
      exec .cmdStart s = .next { s with outbox := s.outbox ++ [.err 4 0] }) ∧
    (s.runstate ≠ .idle → exec .cmdStart s = .next s)

/-- R122: `CMD.STOP`. -/
def Obligations.CmdStopEndsTheRun : Prop :=
  ∀ s : State,
    select s.params s.seq .stop = .ok .cmdStop ∧
    (s.runstate = .run →
      exec .cmdStop s = .next { s with runstate := .stopped, outbox := s.outbox ++ [.tx s.params.stopCmd] }) ∧
    (s.runstate ≠ .run → exec .cmdStop s = .next s)

/-- R123, R28: `CFG.WR` of each register stores the whole value in `IDLE`; elsewhere no register's write does anything. -/
def Obligations.CfgWrStoresInIdleOnly : Prop :=
  (∀ (s : State) (e : CfgWrite), select s.params s.seq (.cfgWr e) = .ok (selectCfgWr e) ∧
    (s.runstate ≠ .idle → exec (selectCfgWr e) s = .next s)) ∧
  ∀ (s : State) (v : Half) (w : Word) (i : Fin 8) (b : Bool), s.runstate = .idle →
    exec (.cfgWrN v) s = .next { s with cfg := { s.cfg with n := v } } ∧
    exec (.cfgWrOccEnter v) s = .next { s with cfg := { s.cfg with occEnter := v } } ∧
    exec (.cfgWrOccExit v) s = .next { s with cfg := { s.cfg with occExit := v } } ∧
    exec (.cfgWrMotEnter v) s = .next { s with cfg := { s.cfg with motEnter := v } } ∧
    exec (.cfgWrMotExit v) s = .next { s with cfg := { s.cfg with motExit := v } } ∧
    exec (.cfgWrIterLimit w) s = .next { s with cfg := { s.cfg with iterLimit := w } } ∧
    exec (.cfgWrTrig i b w) s =
      .next { s with cfg := { s.cfg with trig := s.cfg.trig.set i.val { valid := b, count := w } } }

/-- R124: `RX.DROP`: the byte is selected to be dropped in every state but `RUN`, and changes nothing. -/
def Obligations.RxDropLosesTheByte : Prop :=
  ∀ (s : State) (b : Byte), s.runstate ≠ .run →
    select s.params s.seq (.rx b) = .ok (.rxDrop b) ∧ exec (.rxDrop b) s = .next s

/-- R160, R36: `RESET` gives every state element the value of the table, from any state, and emits nothing; what is not
state of the block (the parameters, the waiting events, the events emitted) is kept (log 10). -/
def Obligations.ResetRestoresTheTable : Prop :=
  ∀ s : State,
    select s.params s.seq .reset = .ok .reset ∧
    exec .reset s =
      .next { runstate := .idle, phase := .hunt, scancnt := 0, fidx := 0, confok := false,
              thermbuf := Vector.replicate 2 0, arrbuf := Vector.replicate 128 0, csumacc := 0, therm := 0,
              pktcnt := 0, itercnt := 0,
              cfg := { n := 1, occEnter := 30, occExit := 25, motEnter := 20, motExit := 13,
                       trig := Vector.replicate 8 { valid := false, count := 0 }, iterLimit := 0 },
              sum := Vector.replicate 64 0, samples := 0, prevvalid := false, prev := Vector.replicate 64 0,
              occ := false, mot := false,
              params := s.params, inbox := s.inbox, outbox := s.outbox, yielded := .nothing }

/-- R146: `LINK.FAIL(tx_avail)`. -/
def Obligations.LinkFailHaltsTheRun : Prop :=
  ∀ s : State,
    (s.runstate = .run →
      exec (.linkFail true) s =
        .next { s with runstate := .halted, outbox := s.outbox ++ [.err 3 1, .tx s.params.stopCmd] } ∧
      exec (.linkFail false) s = .next { s with runstate := .halted, outbox := s.outbox ++ [.err 3 0] }) ∧
    (∀ t : Bool, select s.params s.seq (.linkFail t) = .ok (.linkFail t) ∧
      (s.runstate ≠ .run → exec (.linkFail t) s = .next s))

/-- The model's choice (log 5) over R61: `PACKET` puts its 134 bytes on the RX stream, in increasing offset, behind what
waits: three marker bytes, the thermistor, the array values, each low byte first, the checksum. -/
def Obligations.PacketArrivesByteByByte : Prop :=
  ∀ (s : State) (therm : Half) (vals : Vector Half 64), ∃ bytes : List Byte,
    exec (.packet therm vals) s = .next { s with inbox := s.inbox ++ bytes.map .rx } ∧
    bytes.length = 134 ∧
    (∀ j, j < 3 → bytes[j]? = some s.params.marker) ∧
    bytes[3]? = some (BitVec.ofNat 8 therm.toNat) ∧ bytes[4]? = some (BitVec.ofNat 8 (therm.toNat / 256)) ∧
    (∀ k : Fin 64, bytes[5 + 2 * k.val]? = some (BitVec.ofNat 8 vals[k.val].toNat) ∧
      bytes[6 + 2 * k.val]? = some (BitVec.ofNat 8 (vals[k.val].toNat / 256))) ∧
    bytes[133]? = some (BitVec.ofNat 8 ((((bytes.drop 3).take 130).map BitVec.toNat).sum % 256))

/-- The model's choice (log 5) over R64: each control byte is one byte on the TX stream; the two differ (R6). -/
def Obligations.ControlBytesGoOut : Prop :=
  (∀ s : State,
    exec .ctlStart s = .next { s with outbox := s.outbox ++ [.tx s.params.startCmd] } ∧
    exec .ctlStop s = .next { s with outbox := s.outbox ++ [.tx s.params.stopCmd] }) ∧
  Config.params.startCmd ≠ Config.params.stopCmd

/-- R143 with R144 to R148: what entering each of R141's error conditions emits and changes, and that `LINK.FAIL` is the entry
of `LinkFailure` in `RUN` and nothing elsewhere. -/
def Obligations.EnteringAnErrorReportsIt : Prop :=
  ∀ (s : State) (received computed : Byte),
    raise .syncWindow s = afterIteration s [.err 1 0] ∧
    raise .syncConfirm s = afterIteration s [.err 1 1] ∧
    raise (.checksumError received computed) s = afterIteration s [.err 2 (received ++ computed)] ∧
    raise .counterOverflow s = { s with runstate := .halted, outbox := s.outbox ++ [.err 5 0, .tx s.params.stopCmd] } ∧
    raise .configInvalid s = { s with outbox := s.outbox ++ [.err 4 0] } ∧
    (∀ x : Bool,
      raise (.linkFailure x) s =
        { s with runstate := .halted
                 outbox := s.outbox ++ [.err 3 (if x then 1 else 0)] ++ (if x then [.tx s.params.stopCmd] else []) } ∧
      select s.params s.seq (.linkFail x) = .ok (.linkFail x) ∧
      exec (.linkFail x) s = .next (if s.runstate = .run then raise (.linkFailure x) s else s))

/-- R37 at power-on: the invariant holds at reset, with whatever events waiting. -/
def Obligations.ResetMeetsTheInvariant : Prop :=
  ∀ es : List Event, Inv (State.reset.deliver es)

/-- 93_implementation_defined.md X2, X3, X4, X6: the states no run reaches are refused, each by its own name (log 6). -/
def Obligations.UnreachableStatesAreRefused : Prop :=
  (∀ (s : State) (e : Event) (rest : List Event), s.inbox = e :: rest →
    (∀ i, select s.params s.seq e ≠ .ok i) → step s = .refused .unreachableSelection) ∧
  (∀ (s : State) (b : Byte), 2 ≤ s.fidx.toNat → exec (.rdTherm b) s = .refused .unreachableSelection) ∧
  (∀ (s : State) (b : Byte), 128 ≤ s.fidx.toNat → exec (.rdArray b) s = .refused .unreachableSelection) ∧
  (∀ s : State, cfgLegal s.cfg = false → exec .pipeRun s = .refused .illegalConfiguration) ∧
  (∀ s : State, cfgLegal s.cfg = true → s.cfg.n.toNat ≤ s.samples.toNat → exec .pipeRun s = .refused .windowOverrun) ∧
  (∀ s : State, cfgLegal s.cfg = true → s.samples.toNat < s.cfg.n.toNat → s.mot = true → s.prevvalid = false →
    exec .pipeRun s = .refused .motionWithoutPrevious)

/-! ### Encodings -/

/-- R65, both directions: an event selects an operation exactly when that operation's row holds and the event carries it.
So the rows are mutually exclusive. -/
def Obligations.SelectionIsTheTable : Prop :=
  ∀ (p : Params) (q : SeqTuple) (e : Event) (i : Instr),
    select p q e = .ok i ↔ i.selectedAt p q = true ∧ i.event? = some e

/-- Decode and encode agree, for every row that has an encoding (R61, R64, R65): where the row's selectors hold, decoding
what carries a well-formed instruction gives it back, with every operand; and the selectors of every such row hold
somewhere. -/
def Obligations.DecodeOfEncodeIsTheInstruction : Prop :=
  ∀ (p : Params) (i : Instr) (c : Carrier), p.legal → i.wellFormed p = true → encode p i = some c →
    (∀ q : SeqTuple, i.selectedAt p q = true → decode p q c = .ok i) ∧ ∃ q : SeqTuple, i.selectedAt p q = true

/-- R61: the decoder accepts exactly the well-formed packets, and each is the encoding of what it reads. -/
def Obligations.PacketDecoderAcceptsWellFormed : Prop :=
  ∀ (p : Params) (bytes : List Byte),
    ((∃ i, decodePacket p bytes = .ok i) ↔
      bytes.length = 134 ∧ (∀ j, j < 3 → bytes[j]? = some p.marker) ∧
      bytes[133]? = some (BitVec.ofNat 8 ((((bytes.drop 3).take 130).map BitVec.toNat).sum % 256))) ∧
    (∀ i, decodePacket p bytes = .ok i → i.bytes? p = some bytes)

/-- R98: a packet with any one byte from offset 3 on changed is rejected for its checksum. -/
def Obligations.OneChangedByteIsDetected : Prop :=
  ∀ (p : Params) (therm : Half) (vals : Vector Half 64) (j : Nat) (b : Byte),
    3 ≤ j → j < 134 → (encodePacket p therm vals)[j]? ≠ some b →
    decodePacket p ((encodePacket p therm vals).set j b) = .error .badChecksum

/-! ### Invariants and whole-machine rules -/

/-- R37: every step keeps the invariant. -/
def Obligations.EveryStepKeepsTheInvariant : Prop :=
  ∀ s t : State, Inv s → step s = .next t → Inv t

/-- R42: from a state that meets the invariant the step is defined for every event: it is never refused, and consumes
exactly the oldest event. -/
def Obligations.StepIsDefinedForEveryEvent : Prop :=
  ∀ s : State, Inv s → ∃ t, step s = .next t ∧ t.inbox = s.inbox.tail

/-- R97: every step keeps the law of the running checksum. -/
def Obligations.EveryStepKeepsTheChecksumLaw : Prop :=
  ∀ s t : State, ChecksumLaw s → step s = .next t → ChecksumLaw t

/-- R151: the events one step emits are in the order `ERR`, `FRAME`, `TRIG`, `TX`, each at most once. -/
def Obligations.OutputsOfOneStepAreOrdered : Prop :=
  ∀ s t : State, step s = .next t →
    ∃ l, t.outbox = s.outbox ++ l ∧ l.Pairwise fun a b => outputRank a < outputRank b

/-- R128: the run state changes only by the listed transitions, each with its outputs. -/
def Obligations.RunStateChangesOnlyAsListed : Prop :=
  ∀ (s t : State) (e : Event) (rest : List Event) (l : List Output),
    s.inbox = e :: rest → step s = .next t → t.outbox = s.outbox ++ l → t.runstate ≠ s.runstate →
    (e = .reset ∧ t.runstate = .idle ∧ l = []) ∨
    (s.runstate = .idle ∧ e = .start ∧ cfgLegal s.cfg = true ∧ t.runstate = .run ∧ l = [.tx s.params.startCmd]) ∨
    (s.runstate = .run ∧ e = .stop ∧ t.runstate = .stopped ∧ l = [.tx s.params.stopCmd]) ∨
    (s.runstate = .run ∧ (∃ b, e = .rx b) ∧ s.cfg.iterLimit ≠ 0 ∧ t.itercnt = s.cfg.iterLimit ∧ t.runstate = .stopped ∧
      ∃ pre, l = pre ++ [.tx s.params.stopCmd]) ∨
    (s.runstate = .run ∧ e = .linkFail true ∧ t.runstate = .halted ∧ l = [.err 3 1, .tx s.params.stopCmd]) ∨
    (s.runstate = .run ∧ e = .linkFail false ∧ t.runstate = .halted ∧ l = [.err 3 0]) ∨
    (s.runstate = .run ∧ e = .rx s.csumacc ∧ s.phase = .csum ∧ s.pktcnt = 0xFFFFFFFF#32 ∧ t.runstate = .halted ∧
      l = [.err 5 0, .tx s.params.stopCmd])

/-- R171: when a run is over, every event but `RESET` leaves the state unchanged and emits nothing. -/
def Obligations.AnEndedRunStaysAsItIs : Prop :=
  ∀ (s : State) (e : Event) (rest : List Event),
    s.runstate = .stopped ∨ s.runstate = .halted → s.inbox = e :: rest → e ≠ .reset →
    step s = .next { s with inbox := rest }

/-- R37 item 5, R20: the packet count changes only by `+1`, and only on a checksum byte that matches; `RESET` apart. -/
def Obligations.PacketCountOnlyGrowsByOne : Prop :=
  ∀ s t : State, step s = .next t → t.pktcnt ≠ s.pktcnt →
    s.inbox.head? = some .reset ∨
    (s.runstate = .run ∧ s.phase = .csum ∧ s.inbox.head? = some (.rx s.csumacc) ∧
      t.pktcnt.toNat = s.pktcnt.toNat + 1)

/-- R28, R54: outside `IDLE` no event but `RESET` changes the configuration. That no step ever changes the parameters is the
model's choice (log 1), after 10_state.md R35: they are "arguments of the model, not state". -/
def Obligations.ConfigurationIsFrozenDuringARun : Prop :=
  ∀ s t : State, step s = .next t →
    t.params = s.params ∧ (s.runstate ≠ .idle → s.inbox.head? ≠ some .reset → t.cfg = s.cfg)

/-- R108, R37 item 2: on an accepted packet a `FRAME` is emitted exactly when the new count is a multiple of `CFG_N`, and
`SAMPLES` is the count modulo `CFG_N`. With the frames accepted since reset, newest first: `SUM` is the sum of the last
`SAMPLES` of them at reset and after every step, and a `FRAME` carries the sum of the last `CFG_N` of them. -/
def Obligations.FrameExactlyEveryNPackets : Prop :=
  (∀ (s t : State) (l : List Output), Inv s → s.runstate = .run → s.phase = .csum →
    s.inbox.head? = some (.rx s.csumacc) → s.pktcnt ≠ 0xFFFFFFFF#32 → step s = .next t → t.outbox = s.outbox ++ l →
    ((∃ S n o m c, Output.frame S n o m c ∈ l) ↔ t.pktcnt.toNat % s.cfg.n.toNat = 0) ∧
    t.samples.toNat = t.pktcnt.toNat % s.cfg.n.toNat) ∧
  (∀ es : List Event, FrameHistory [] (State.reset.deliver es)) ∧
  (∀ (s t : State) (l : List Output) (frames : List Frame), Inv s → FrameHistory frames s → step s = .next t →
    t.outbox = s.outbox ++ l →
    FrameHistory (framesAfter s frames) t ∧
    ∀ S n o m k, Output.frame S n o m k ∈ l →
      n = s.cfg.n ∧ n.toNat ≤ (framesAfter s frames).length ∧
      ∀ r c, (S.cell r c).toInt = sumOfNewest (framesAfter s frames) n.toNat r c)

/-- R19, 90_conflicts.md C9: `THERM` influences no event and no other state. -/
def Obligations.ThermInfluencesNothingElse : Prop :=
  ∀ (s t : State) (v : Half), step s = .next t →
    ∃ w : Half, step { s with therm := v } = .next { t with therm := w }

/-- R152: coinciding events are put in the order of their priority. That those of equal priority keep the order in which they
are given is the model's choice (log 13): the spec says nothing of it. -/
def Obligations.CoincidingEventsAreSerialised : Prop :=
  ∀ es : List Event,
    (serialise es).Pairwise (fun a b => eventPriority a ≤ eventPriority b) ∧
    ∀ k, (serialise es).filter (fun e => eventPriority e == k) = es.filter (fun e => eventPriority e == k)

/-! ### Arithmetic -/

/-- R111: the integer comparison of `OCC.UPD` is the comparison of the Frobenius norm of the frame's deviation from its own
mean with the threshold, over the reals; and `QOCC` is 0 exactly when all cells are equal. -/
def Obligations.OccComparisonIsTheNorm : Prop :=
  ∀ (a : Avg) (mean nu : ℝ), 1 ≤ a.n.toNat →
    mean = (∑ r : Fin 8, ∑ c : Fin 8, (a.value r c : ℝ)) / 64 →
    nu = Real.sqrt (∑ r : Fin 8, ∑ c : Fin 8, ((a.value r c : ℝ) - mean) ^ 2) →
    nu ^ 2 = (qocc a.S : ℝ) / (64 * (a.n.toNat : ℝ) ^ 2) ∧
    (∀ t : Half, (nu > (t.toNat : ℝ) ↔ qocc a.S > occBound a.n t) ∧ (nu < (t.toNat : ℝ) ↔ qocc a.S < occBound a.n t)) ∧
    0 ≤ qocc a.S ∧ (qocc a.S = 0 ↔ ∀ r c, a.S.cell r c = a.S.cell 0 0)

/-- R113: the integer comparison of `MOT.UPD` is the comparison of the Frobenius norm of the difference of the two averaged
frames with the threshold, over the reals. -/
def Obligations.MotComparisonIsTheNorm : Prop :=
  ∀ (a b : Avg) (nu : ℝ), 1 ≤ a.n.toNat → b.n = a.n →
    nu = Real.sqrt (∑ r : Fin 8, ∑ c : Fin 8, ((a.value r c : ℝ) - (b.value r c : ℝ)) ^ 2) →
    nu ^ 2 = (qmot a.S b.S : ℝ) / (a.n.toNat : ℝ) ^ 2 ∧
    ∀ t : Half,
      (nu > (t.toNat : ℝ) ↔ qmot a.S b.S > motBound a.n t) ∧ (nu < (t.toNat : ℝ) ↔ qmot a.S b.S < motBound a.n t)

/-- R117 (a), (b): a flag rises only at a norm above the enter threshold (motion: only while
occupied), falls only at a norm below the exit threshold, and a sequence of frames within the dead band never changes it. In
the motion sequence each frame is compared with the frame just before it (R115 (e)), and `OCC` is any bit in each step; R115
selects `MOT.UPD` with `PREVVALID = 1`: with `PREVVALID = 0`, or where `PIPE.RUN` does not invoke it, that clause is the
model's choice (log 7). -/
def Obligations.HysteresisHasNoChatter : Prop :=
  ∀ (c : CfgRegs) (p : SumGrid) (occ flag : Bool) (a : Avg) (band : List Avg),
    (occNext c a false = true → qocc a.S > occBound a.n c.occEnter) ∧
    (occNext c a true = false → qocc a.S < occBound a.n c.occExit) ∧
    (motNext c a p occ false = true → qmot a.S p > motBound a.n c.motEnter ∧ occ = true) ∧
    (motNext c a p occ true = false → qmot a.S p < motBound a.n c.motExit) ∧
    ((∀ b ∈ band, occBound b.n c.occExit ≤ qocc b.S ∧ qocc b.S ≤ occBound b.n c.occEnter) →
      band.foldl (fun f b => occNext c b f) flag = flag) ∧
    (∀ (s : State) (steps : List (Bool × Avg)), InMotionBand s.cfg s.prev (steps.map Prod.snd) →
      ∃ t, feedMotion steps s = .next t ∧ t.mot = s.mot ∧ t.prev = ((steps.map fun x => x.2.S).getLast?).getD s.prev)

/-- R103 (b), (c), (e): the decode is a bijection, reversing the columns again gives the plain row-major grid, and the
reversal changes neither detector's measure. -/
def Obligations.FrameDecodeIsABijection : Prop :=
  Function.Bijective decodeFrame ∧
  (∀ (arr : Vector Byte 128) (r c : Fin 8),
    (decodeFrame arr).reverseColumns.cell r c = (unpackValues arr)[(cellIndex r c).val]) ∧
  (∀ g p : SumGrid, qocc g.reverseColumns = qocc g ∧ qmot g.reverseColumns p.reverseColumns = qmot g p)

/-- R30, R109: inside a window of at most 65535 frames the 32-bit adder never wraps: the new sums are the exact integer
sums and keep the bound. -/
def Obligations.AccumulatorNeverWraps : Prop :=
  ∀ (sum : SumGrid) (f : Frame) (k : Nat), k + 1 ≤ 65535 →
    (∀ r c, (sum.cell r c).toInt.natAbs ≤ k * 32768) →
    ∀ r c, ((addFrame sum f).cell r c).toInt = (sum.cell r c).toInt + (f.cell r c).toInt ∧
      ((addFrame sum f).cell r c).toInt.natAbs ≤ (k + 1) * 32768

/-- R118: the widths of the detectors' intermediates. -/
def Obligations.MeasuresFitTheirWidths : Prop :=
  ∀ (g p : SumGrid) (n t : Half),
    |gridTotal g| ≤ 2 ^ 37 ∧ 0 ≤ qocc g ∧ qocc g ≤ 2 ^ 74 ∧ 64 * gridSquares g ≤ 2 ^ 74 ∧ gridTotal g ^ 2 ≤ 2 ^ 74 ∧
    occBound n t < 2 ^ 70 ∧ 0 ≤ qmot g p ∧ qmot g p ≤ 2 ^ 70 ∧ motBound n t < 2 ^ 64

/-! ### Byte sequences -/

/-- R86: the outcome of a synchronization attempt as a function of the bytes it sees: success, failure of the
confirmation, and exhaustion of the window. -/
def Obligations.SyncAttemptOutcome : Prop :=
  ∀ (s : State) (rest : List Event), s.runstate = .run → s.phase = .hunt → s.fidx = 0 → s.scancnt = 0 →
    (∀ pre : List Byte, pre.length ≤ 131 → s.params.marker ∉ pre →
      s.inbox = rxEvents (pre ++ [s.params.marker, s.params.marker, s.params.marker]) ++ rest →
      Host.Core.run core (pre.length + 3) s =
        .next { s with inbox := rest, phase := .therm, fidx := 0, scancnt := BitVec.ofNat 8 (pre.length + 3),
                       confok := true, csumacc := 0 }) ∧
    (∀ (pre : List Byte) (x y : Byte), pre.length ≤ 131 → s.params.marker ∉ pre →
      ¬ (x = s.params.marker ∧ y = s.params.marker) →
      s.inbox = rxEvents (pre ++ [s.params.marker, x, y]) ++ rest →
      Host.Core.run core (pre.length + 3) s = .next (afterIteration { s with inbox := rest } [.err 1 1])) ∧
    (∀ bytes : List Byte, bytes.length = 134 → s.params.marker ∉ bytes.take 132 →
      s.inbox = rxEvents bytes ++ rest →
      Host.Core.run core 134 s = .next (afterIteration { s with inbox := rest } [.err 1 0]))

/-- R90, R95: a well-formed packet that arrives at the start of an attempt is read whole and runs the pipeline on exactly
its contents. -/
def Obligations.WellFormedPacketIsAccepted : Prop :=
  ∀ (s : State) (therm : Half) (vals : Vector Half 64) (rest : List Event),
    s.runstate = .run → s.phase = .hunt → s.fidx = 0 → s.scancnt = 0 → s.pktcnt ≠ 0xFFFFFFFF#32 → PipelineReady s →
    s.inbox = rxEvents (encodePacket s.params therm vals) ++ rest →
    ∃ (arr : Vector Byte 128) (u t : State),
      (∀ r c : Fin 8, (decodeFrame arr).cell r c = vals[(mirrorIndex r c).val]) ∧
      u = { s with phase := .csum, fidx := 0, scancnt := 3, confok := true, arrbuf := arr,
                   thermbuf := #v[loByte therm, hiByte therm], csumacc := checksum (encodeData therm vals),
                   therm := therm, pktcnt := s.pktcnt + 1, inbox := rest } ∧
      exec .pipeRun u = .next t ∧ Host.Core.run core 134 s = .next t

/-- R94, R90: the same packet with a wrong last byte is reported with both checksums and leaves everything it could have
changed as it was, the packet buffers and the running checksum apart. -/
def Obligations.WrongChecksumIsRejected : Prop :=
  ∀ (s : State) (therm : Half) (vals : Vector Half 64) (bad : Byte) (rest : List Event),
    s.runstate = .run → s.phase = .hunt → s.fidx = 0 → s.scancnt = 0 →
    bad ≠ checksum (encodeData therm vals) →
    s.inbox = rxEvents ((encodePacket s.params therm vals).set 133 bad) ++ rest →
    ∃ arr : Vector Byte 128, unpackValues arr = vals ∧
      Host.Core.run core 134 s =
        .next (afterIteration
          { s with inbox := rest, thermbuf := #v[loByte therm, hiByte therm], arrbuf := arr,
                   csumacc := checksum (encodeData therm vals) }
          [.err 2 (bad ++ checksum (encodeData therm vals))])

/-! ### What the host reads -/

/-- R28, R29: the host's view shows each readable element, and nothing but these; the configuration it reads is the reset
value or the last value written in `IDLE`, and a write outside `IDLE` changes nothing. -/
def Obligations.HostReadsTheStatus : Prop :=
  (∀ s : State,
    s.hostView.runstate = s.runstate ∧ s.hostView.phase = s.phase ∧ s.hostView.scancnt = s.scancnt ∧
    s.hostView.fidx = s.fidx ∧ s.hostView.pktcnt = s.pktcnt ∧ s.hostView.itercnt = s.itercnt ∧
    s.hostView.therm = s.therm ∧ s.hostView.samples = s.samples ∧ s.hostView.occ = s.occ ∧ s.hostView.mot = s.mot ∧
    s.hostView.prevvalid = s.prevvalid ∧ s.hostView.cfg = s.cfg) ∧
  (∀ (s : State) (confok : Bool) (thermbuf : Vector Byte 2) (arrbuf : Vector Byte 128) (csumacc : Byte)
    (sum prev : SumGrid),
    State.hostView { s with confok := confok, thermbuf := thermbuf, arrbuf := arrbuf, csumacc := csumacc,
                            sum := sum, prev := prev } = s.hostView) ∧
  (∀ s t : State, step s = .next t →
    t.hostView.cfg =
      match s.inbox.head? with
      | some .reset => State.reset.hostView.cfg
      | some (.cfgWr w) => if s.runstate = .idle then writeCfg s.hostView.cfg w else s.hostView.cfg
      | some .start | some .stop | some (.rx _) | some (.linkFail _) | none => s.hostView.cfg) ∧
  (∀ (s : State) (w : CfgWrite) (rest : List Event), s.runstate ≠ .idle → s.inbox = .cfgWr w :: rest →
    step s = .next { s with inbox := rest })
end

