-- ==== Sys2Proof/Laws/State.lean ====
section
/-! SUPPORT. What each update of the state does to each field, one lemma per field, so that no later proof unfolds an
update. -/

namespace Sys2Proof.Machine

variable (s : State)

/-! ### Emitting an output event (R44) -/

@[simp] theorem State.emit_runstate (e : Output) : (s.emit e).runstate = s.runstate := rfl
@[simp] theorem State.emit_phase (e : Output) : (s.emit e).phase = s.phase := rfl
@[simp] theorem State.emit_fidx (e : Output) : (s.emit e).fidx = s.fidx := rfl
@[simp] theorem State.emit_scancnt (e : Output) : (s.emit e).scancnt = s.scancnt := rfl
@[simp] theorem State.emit_confok (e : Output) : (s.emit e).confok = s.confok := rfl
@[simp] theorem State.emit_thermbuf (e : Output) : (s.emit e).thermbuf = s.thermbuf := rfl
@[simp] theorem State.emit_arrbuf (e : Output) : (s.emit e).arrbuf = s.arrbuf := rfl
@[simp] theorem State.emit_csumacc (e : Output) : (s.emit e).csumacc = s.csumacc := rfl
@[simp] theorem State.emit_therm (e : Output) : (s.emit e).therm = s.therm := rfl
@[simp] theorem State.emit_pktcnt (e : Output) : (s.emit e).pktcnt = s.pktcnt := rfl
@[simp] theorem State.emit_itercnt (e : Output) : (s.emit e).itercnt = s.itercnt := rfl
@[simp] theorem State.emit_cfg (e : Output) : (s.emit e).cfg = s.cfg := rfl
@[simp] theorem State.emit_sum (e : Output) : (s.emit e).sum = s.sum := rfl
@[simp] theorem State.emit_samples (e : Output) : (s.emit e).samples = s.samples := rfl
@[simp] theorem State.emit_prevvalid (e : Output) : (s.emit e).prevvalid = s.prevvalid := rfl
@[simp] theorem State.emit_prev (e : Output) : (s.emit e).prev = s.prev := rfl
@[simp] theorem State.emit_occ (e : Output) : (s.emit e).occ = s.occ := rfl
@[simp] theorem State.emit_mot (e : Output) : (s.emit e).mot = s.mot := rfl
@[simp] theorem State.emit_params (e : Output) : (s.emit e).params = s.params := rfl
@[simp] theorem State.emit_inbox (e : Output) : (s.emit e).inbox = s.inbox := rfl
@[simp] theorem State.emit_outbox (e : Output) : (s.emit e).outbox = s.outbox ++ [e] := rfl
@[simp] theorem State.emit_yielded (e : Output) : (s.emit e).yielded = s.yielded := rfl

/-! ### Yielding a transient (R35) -/

@[simp] theorem State.yield_runstate (y : Yield) : (s.yield y).runstate = s.runstate := rfl
@[simp] theorem State.yield_phase (y : Yield) : (s.yield y).phase = s.phase := rfl
@[simp] theorem State.yield_fidx (y : Yield) : (s.yield y).fidx = s.fidx := rfl
@[simp] theorem State.yield_scancnt (y : Yield) : (s.yield y).scancnt = s.scancnt := rfl
@[simp] theorem State.yield_confok (y : Yield) : (s.yield y).confok = s.confok := rfl
@[simp] theorem State.yield_thermbuf (y : Yield) : (s.yield y).thermbuf = s.thermbuf := rfl
@[simp] theorem State.yield_arrbuf (y : Yield) : (s.yield y).arrbuf = s.arrbuf := rfl
@[simp] theorem State.yield_csumacc (y : Yield) : (s.yield y).csumacc = s.csumacc := rfl
@[simp] theorem State.yield_therm (y : Yield) : (s.yield y).therm = s.therm := rfl
@[simp] theorem State.yield_pktcnt (y : Yield) : (s.yield y).pktcnt = s.pktcnt := rfl
@[simp] theorem State.yield_itercnt (y : Yield) : (s.yield y).itercnt = s.itercnt := rfl
@[simp] theorem State.yield_cfg (y : Yield) : (s.yield y).cfg = s.cfg := rfl
@[simp] theorem State.yield_sum (y : Yield) : (s.yield y).sum = s.sum := rfl
@[simp] theorem State.yield_samples (y : Yield) : (s.yield y).samples = s.samples := rfl
@[simp] theorem State.yield_prevvalid (y : Yield) : (s.yield y).prevvalid = s.prevvalid := rfl
@[simp] theorem State.yield_prev (y : Yield) : (s.yield y).prev = s.prev := rfl
@[simp] theorem State.yield_occ (y : Yield) : (s.yield y).occ = s.occ := rfl
@[simp] theorem State.yield_mot (y : Yield) : (s.yield y).mot = s.mot := rfl
@[simp] theorem State.yield_params (y : Yield) : (s.yield y).params = s.params := rfl
@[simp] theorem State.yield_inbox (y : Yield) : (s.yield y).inbox = s.inbox := rfl
@[simp] theorem State.yield_outbox (y : Yield) : (s.yield y).outbox = s.outbox := rfl
@[simp] theorem State.yield_yielded (y : Yield) : (s.yield y).yielded = y := rfl

/-! ### Delivering input events (R42) -/

@[simp] theorem State.deliver_runstate (es : List Event) : (s.deliver es).runstate = s.runstate := rfl
@[simp] theorem State.deliver_phase (es : List Event) : (s.deliver es).phase = s.phase := rfl
@[simp] theorem State.deliver_fidx (es : List Event) : (s.deliver es).fidx = s.fidx := rfl
@[simp] theorem State.deliver_scancnt (es : List Event) : (s.deliver es).scancnt = s.scancnt := rfl
@[simp] theorem State.deliver_confok (es : List Event) : (s.deliver es).confok = s.confok := rfl
@[simp] theorem State.deliver_thermbuf (es : List Event) : (s.deliver es).thermbuf = s.thermbuf := rfl
@[simp] theorem State.deliver_arrbuf (es : List Event) : (s.deliver es).arrbuf = s.arrbuf := rfl
@[simp] theorem State.deliver_csumacc (es : List Event) : (s.deliver es).csumacc = s.csumacc := rfl
@[simp] theorem State.deliver_therm (es : List Event) : (s.deliver es).therm = s.therm := rfl
@[simp] theorem State.deliver_pktcnt (es : List Event) : (s.deliver es).pktcnt = s.pktcnt := rfl
@[simp] theorem State.deliver_itercnt (es : List Event) : (s.deliver es).itercnt = s.itercnt := rfl
@[simp] theorem State.deliver_cfg (es : List Event) : (s.deliver es).cfg = s.cfg := rfl
@[simp] theorem State.deliver_sum (es : List Event) : (s.deliver es).sum = s.sum := rfl
@[simp] theorem State.deliver_samples (es : List Event) : (s.deliver es).samples = s.samples := rfl
@[simp] theorem State.deliver_prevvalid (es : List Event) : (s.deliver es).prevvalid = s.prevvalid := rfl
@[simp] theorem State.deliver_prev (es : List Event) : (s.deliver es).prev = s.prev := rfl
@[simp] theorem State.deliver_occ (es : List Event) : (s.deliver es).occ = s.occ := rfl
@[simp] theorem State.deliver_mot (es : List Event) : (s.deliver es).mot = s.mot := rfl
@[simp] theorem State.deliver_params (es : List Event) : (s.deliver es).params = s.params := rfl
@[simp] theorem State.deliver_inbox (es : List Event) : (s.deliver es).inbox = s.inbox ++ es := rfl
@[simp] theorem State.deliver_outbox (es : List Event) : (s.deliver es).outbox = s.outbox := rfl
@[simp] theorem State.deliver_yielded (es : List Event) : (s.deliver es).yielded = s.yielded := rfl

/-! ### Taking the event a step processes (R43) -/

@[simp] theorem State.popInbox_runstate : (s.popInbox).runstate = s.runstate := rfl
@[simp] theorem State.popInbox_phase : (s.popInbox).phase = s.phase := rfl
@[simp] theorem State.popInbox_fidx : (s.popInbox).fidx = s.fidx := rfl
@[simp] theorem State.popInbox_scancnt : (s.popInbox).scancnt = s.scancnt := rfl
@[simp] theorem State.popInbox_confok : (s.popInbox).confok = s.confok := rfl
@[simp] theorem State.popInbox_thermbuf : (s.popInbox).thermbuf = s.thermbuf := rfl
@[simp] theorem State.popInbox_arrbuf : (s.popInbox).arrbuf = s.arrbuf := rfl
@[simp] theorem State.popInbox_csumacc : (s.popInbox).csumacc = s.csumacc := rfl
@[simp] theorem State.popInbox_therm : (s.popInbox).therm = s.therm := rfl
@[simp] theorem State.popInbox_pktcnt : (s.popInbox).pktcnt = s.pktcnt := rfl
@[simp] theorem State.popInbox_itercnt : (s.popInbox).itercnt = s.itercnt := rfl
@[simp] theorem State.popInbox_cfg : (s.popInbox).cfg = s.cfg := rfl
@[simp] theorem State.popInbox_sum : (s.popInbox).sum = s.sum := rfl
@[simp] theorem State.popInbox_samples : (s.popInbox).samples = s.samples := rfl
@[simp] theorem State.popInbox_prevvalid : (s.popInbox).prevvalid = s.prevvalid := rfl
@[simp] theorem State.popInbox_prev : (s.popInbox).prev = s.prev := rfl
@[simp] theorem State.popInbox_occ : (s.popInbox).occ = s.occ := rfl
@[simp] theorem State.popInbox_mot : (s.popInbox).mot = s.mot := rfl
@[simp] theorem State.popInbox_params : (s.popInbox).params = s.params := rfl
@[simp] theorem State.popInbox_inbox : (s.popInbox).inbox = s.inbox.tail := rfl
@[simp] theorem State.popInbox_outbox : (s.popInbox).outbox = s.outbox := rfl
@[simp] theorem State.popInbox_yielded : (s.popInbox).yielded = s.yielded := rfl

/-! ### The first lines of `ITER.END` (R127) -/

@[simp] theorem rewind_runstate : (rewind s).runstate = s.runstate := rfl
@[simp] theorem rewind_phase : (rewind s).phase = .hunt := rfl
@[simp] theorem rewind_fidx : (rewind s).fidx = 0 := rfl
@[simp] theorem rewind_scancnt : (rewind s).scancnt = 0 := rfl
@[simp] theorem rewind_confok : (rewind s).confok = false := rfl
@[simp] theorem rewind_thermbuf : (rewind s).thermbuf = s.thermbuf := rfl
@[simp] theorem rewind_arrbuf : (rewind s).arrbuf = s.arrbuf := rfl
@[simp] theorem rewind_csumacc : (rewind s).csumacc = s.csumacc := rfl
@[simp] theorem rewind_therm : (rewind s).therm = s.therm := rfl
@[simp] theorem rewind_pktcnt : (rewind s).pktcnt = s.pktcnt := rfl
@[simp] theorem rewind_itercnt : (rewind s).itercnt = s.itercnt := rfl
@[simp] theorem rewind_cfg : (rewind s).cfg = s.cfg := rfl
@[simp] theorem rewind_sum : (rewind s).sum = s.sum := rfl
@[simp] theorem rewind_samples : (rewind s).samples = s.samples := rfl
@[simp] theorem rewind_prevvalid : (rewind s).prevvalid = s.prevvalid := rfl
@[simp] theorem rewind_prev : (rewind s).prev = s.prev := rfl
@[simp] theorem rewind_occ : (rewind s).occ = s.occ := rfl
@[simp] theorem rewind_mot : (rewind s).mot = s.mot := rfl
@[simp] theorem rewind_params : (rewind s).params = s.params := rfl
@[simp] theorem rewind_inbox : (rewind s).inbox = s.inbox := rfl
@[simp] theorem rewind_outbox : (rewind s).outbox = s.outbox := rfl
@[simp] theorem rewind_yielded : (rewind s).yielded = s.yielded := rfl

/-! ### Counting a byte of the attempt (R13) -/

@[simp] theorem countScan_runstate : (countScan s).runstate = s.runstate := rfl
@[simp] theorem countScan_phase : (countScan s).phase = s.phase := rfl
@[simp] theorem countScan_fidx : (countScan s).fidx = s.fidx := rfl
@[simp] theorem countScan_scancnt : (countScan s).scancnt = s.scancnt + 1 := rfl
@[simp] theorem countScan_confok : (countScan s).confok = s.confok := rfl
@[simp] theorem countScan_thermbuf : (countScan s).thermbuf = s.thermbuf := rfl
@[simp] theorem countScan_arrbuf : (countScan s).arrbuf = s.arrbuf := rfl
@[simp] theorem countScan_csumacc : (countScan s).csumacc = s.csumacc := rfl
@[simp] theorem countScan_therm : (countScan s).therm = s.therm := rfl
@[simp] theorem countScan_pktcnt : (countScan s).pktcnt = s.pktcnt := rfl
@[simp] theorem countScan_itercnt : (countScan s).itercnt = s.itercnt := rfl
@[simp] theorem countScan_cfg : (countScan s).cfg = s.cfg := rfl
@[simp] theorem countScan_sum : (countScan s).sum = s.sum := rfl
@[simp] theorem countScan_samples : (countScan s).samples = s.samples := rfl
@[simp] theorem countScan_prevvalid : (countScan s).prevvalid = s.prevvalid := rfl
@[simp] theorem countScan_prev : (countScan s).prev = s.prev := rfl
@[simp] theorem countScan_occ : (countScan s).occ = s.occ := rfl
@[simp] theorem countScan_mot : (countScan s).mot = s.mot := rfl
@[simp] theorem countScan_params : (countScan s).params = s.params := rfl
@[simp] theorem countScan_inbox : (countScan s).inbox = s.inbox := rfl
@[simp] theorem countScan_outbox : (countScan s).outbox = s.outbox := rfl
@[simp] theorem countScan_yielded : (countScan s).yielded = s.yielded := rfl

/-! ### `ACC.EMIT` (R107) -/

@[simp] theorem accEmit_runstate : (accEmit s).runstate = s.runstate := rfl
@[simp] theorem accEmit_phase : (accEmit s).phase = s.phase := rfl
@[simp] theorem accEmit_fidx : (accEmit s).fidx = s.fidx := rfl
@[simp] theorem accEmit_scancnt : (accEmit s).scancnt = s.scancnt := rfl
@[simp] theorem accEmit_confok : (accEmit s).confok = s.confok := rfl
@[simp] theorem accEmit_thermbuf : (accEmit s).thermbuf = s.thermbuf := rfl
@[simp] theorem accEmit_arrbuf : (accEmit s).arrbuf = s.arrbuf := rfl
@[simp] theorem accEmit_csumacc : (accEmit s).csumacc = s.csumacc := rfl
@[simp] theorem accEmit_therm : (accEmit s).therm = s.therm := rfl
@[simp] theorem accEmit_pktcnt : (accEmit s).pktcnt = s.pktcnt := rfl
@[simp] theorem accEmit_itercnt : (accEmit s).itercnt = s.itercnt := rfl
@[simp] theorem accEmit_cfg : (accEmit s).cfg = s.cfg := rfl
@[simp] theorem accEmit_sum : (accEmit s).sum = Grid.all 0 := rfl
@[simp] theorem accEmit_samples : (accEmit s).samples = 0 := rfl
@[simp] theorem accEmit_prevvalid : (accEmit s).prevvalid = s.prevvalid := rfl
@[simp] theorem accEmit_prev : (accEmit s).prev = s.prev := rfl
@[simp] theorem accEmit_occ : (accEmit s).occ = s.occ := rfl
@[simp] theorem accEmit_mot : (accEmit s).mot = s.mot := rfl
@[simp] theorem accEmit_params : (accEmit s).params = s.params := rfl
@[simp] theorem accEmit_inbox : (accEmit s).inbox = s.inbox := rfl
@[simp] theorem accEmit_outbox : (accEmit s).outbox = s.outbox := rfl
@[simp] theorem accEmit_yielded : (accEmit s).yielded = .avg { S := s.sum, n := s.cfg.n } := rfl

/-! ### `OCC.UPD` (R112) -/

@[simp] theorem occUpd_runstate (a : Avg) : (occUpd a s).runstate = s.runstate := by simp only [occUpd]
@[simp] theorem occUpd_phase (a : Avg) : (occUpd a s).phase = s.phase := by simp only [occUpd]
@[simp] theorem occUpd_fidx (a : Avg) : (occUpd a s).fidx = s.fidx := by simp only [occUpd]
@[simp] theorem occUpd_scancnt (a : Avg) : (occUpd a s).scancnt = s.scancnt := by simp only [occUpd]
@[simp] theorem occUpd_confok (a : Avg) : (occUpd a s).confok = s.confok := by simp only [occUpd]
@[simp] theorem occUpd_thermbuf (a : Avg) : (occUpd a s).thermbuf = s.thermbuf := by simp only [occUpd]
@[simp] theorem occUpd_arrbuf (a : Avg) : (occUpd a s).arrbuf = s.arrbuf := by simp only [occUpd]
@[simp] theorem occUpd_csumacc (a : Avg) : (occUpd a s).csumacc = s.csumacc := by simp only [occUpd]
@[simp] theorem occUpd_therm (a : Avg) : (occUpd a s).therm = s.therm := by simp only [occUpd]
@[simp] theorem occUpd_pktcnt (a : Avg) : (occUpd a s).pktcnt = s.pktcnt := by simp only [occUpd]
@[simp] theorem occUpd_itercnt (a : Avg) : (occUpd a s).itercnt = s.itercnt := by simp only [occUpd]
@[simp] theorem occUpd_cfg (a : Avg) : (occUpd a s).cfg = s.cfg := by simp only [occUpd]
@[simp] theorem occUpd_sum (a : Avg) : (occUpd a s).sum = s.sum := by simp only [occUpd]
@[simp] theorem occUpd_samples (a : Avg) : (occUpd a s).samples = s.samples := by simp only [occUpd]
@[simp] theorem occUpd_prevvalid (a : Avg) : (occUpd a s).prevvalid = s.prevvalid := by simp only [occUpd]
@[simp] theorem occUpd_prev (a : Avg) : (occUpd a s).prev = s.prev := by simp only [occUpd]
@[simp] theorem occUpd_occ (a : Avg) : (occUpd a s).occ = occNext s.cfg a s.occ := by simp only [occUpd]
@[simp] theorem occUpd_mot (a : Avg) : (occUpd a s).mot = s.mot := by simp only [occUpd]
@[simp] theorem occUpd_params (a : Avg) : (occUpd a s).params = s.params := by simp only [occUpd]
@[simp] theorem occUpd_inbox (a : Avg) : (occUpd a s).inbox = s.inbox := by simp only [occUpd]
@[simp] theorem occUpd_outbox (a : Avg) : (occUpd a s).outbox = s.outbox := by simp only [occUpd]
@[simp] theorem occUpd_yielded (a : Avg) : (occUpd a s).yielded = s.yielded := by simp only [occUpd]

/-! ### `MOT.FIRST` (R114) -/

@[simp] theorem motFirst_runstate (a : Avg) : (motFirst a s).runstate = s.runstate := rfl
@[simp] theorem motFirst_phase (a : Avg) : (motFirst a s).phase = s.phase := rfl
@[simp] theorem motFirst_fidx (a : Avg) : (motFirst a s).fidx = s.fidx := rfl
@[simp] theorem motFirst_scancnt (a : Avg) : (motFirst a s).scancnt = s.scancnt := rfl
@[simp] theorem motFirst_confok (a : Avg) : (motFirst a s).confok = s.confok := rfl
@[simp] theorem motFirst_thermbuf (a : Avg) : (motFirst a s).thermbuf = s.thermbuf := rfl
@[simp] theorem motFirst_arrbuf (a : Avg) : (motFirst a s).arrbuf = s.arrbuf := rfl
@[simp] theorem motFirst_csumacc (a : Avg) : (motFirst a s).csumacc = s.csumacc := rfl
@[simp] theorem motFirst_therm (a : Avg) : (motFirst a s).therm = s.therm := rfl
@[simp] theorem motFirst_pktcnt (a : Avg) : (motFirst a s).pktcnt = s.pktcnt := rfl
@[simp] theorem motFirst_itercnt (a : Avg) : (motFirst a s).itercnt = s.itercnt := rfl
@[simp] theorem motFirst_cfg (a : Avg) : (motFirst a s).cfg = s.cfg := rfl
@[simp] theorem motFirst_sum (a : Avg) : (motFirst a s).sum = s.sum := rfl
@[simp] theorem motFirst_samples (a : Avg) : (motFirst a s).samples = s.samples := rfl
@[simp] theorem motFirst_prevvalid (a : Avg) : (motFirst a s).prevvalid = true := rfl
@[simp] theorem motFirst_prev (a : Avg) : (motFirst a s).prev = a.S := rfl
@[simp] theorem motFirst_occ (a : Avg) : (motFirst a s).occ = s.occ := rfl
@[simp] theorem motFirst_mot (a : Avg) : (motFirst a s).mot = s.mot := rfl
@[simp] theorem motFirst_params (a : Avg) : (motFirst a s).params = s.params := rfl
@[simp] theorem motFirst_inbox (a : Avg) : (motFirst a s).inbox = s.inbox := rfl
@[simp] theorem motFirst_outbox (a : Avg) : (motFirst a s).outbox = s.outbox := rfl
@[simp] theorem motFirst_yielded (a : Avg) : (motFirst a s).yielded = s.yielded := rfl

/-! ### `MOT.UPD` (R115) -/

@[simp] theorem motUpd_runstate (a : Avg) : (motUpd a s).runstate = s.runstate := rfl
@[simp] theorem motUpd_phase (a : Avg) : (motUpd a s).phase = s.phase := rfl
@[simp] theorem motUpd_fidx (a : Avg) : (motUpd a s).fidx = s.fidx := rfl
@[simp] theorem motUpd_scancnt (a : Avg) : (motUpd a s).scancnt = s.scancnt := rfl
@[simp] theorem motUpd_confok (a : Avg) : (motUpd a s).confok = s.confok := rfl
@[simp] theorem motUpd_thermbuf (a : Avg) : (motUpd a s).thermbuf = s.thermbuf := rfl
@[simp] theorem motUpd_arrbuf (a : Avg) : (motUpd a s).arrbuf = s.arrbuf := rfl
@[simp] theorem motUpd_csumacc (a : Avg) : (motUpd a s).csumacc = s.csumacc := rfl
@[simp] theorem motUpd_therm (a : Avg) : (motUpd a s).therm = s.therm := rfl
@[simp] theorem motUpd_pktcnt (a : Avg) : (motUpd a s).pktcnt = s.pktcnt := rfl
@[simp] theorem motUpd_itercnt (a : Avg) : (motUpd a s).itercnt = s.itercnt := rfl
@[simp] theorem motUpd_cfg (a : Avg) : (motUpd a s).cfg = s.cfg := rfl
@[simp] theorem motUpd_sum (a : Avg) : (motUpd a s).sum = s.sum := rfl
@[simp] theorem motUpd_samples (a : Avg) : (motUpd a s).samples = s.samples := rfl
@[simp] theorem motUpd_prevvalid (a : Avg) : (motUpd a s).prevvalid = s.prevvalid := rfl
@[simp] theorem motUpd_prev (a : Avg) : (motUpd a s).prev = a.S := rfl
@[simp] theorem motUpd_occ (a : Avg) : (motUpd a s).occ = s.occ := rfl
@[simp] theorem motUpd_mot (a : Avg) : (motUpd a s).mot = motNext s.cfg a s.prev s.occ s.mot := by simp only [motUpd]
@[simp] theorem motUpd_params (a : Avg) : (motUpd a s).params = s.params := rfl
@[simp] theorem motUpd_inbox (a : Avg) : (motUpd a s).inbox = s.inbox := rfl
@[simp] theorem motUpd_outbox (a : Avg) : (motUpd a s).outbox = s.outbox := rfl
@[simp] theorem motUpd_yielded (a : Avg) : (motUpd a s).yielded = s.yielded := rfl

/-! ### Counting a packet (R95) -/

@[simp] theorem afterCount_runstate : (afterCount s).runstate = s.runstate := rfl
@[simp] theorem afterCount_phase : (afterCount s).phase = s.phase := rfl
@[simp] theorem afterCount_fidx : (afterCount s).fidx = s.fidx := rfl
@[simp] theorem afterCount_scancnt : (afterCount s).scancnt = s.scancnt := rfl
@[simp] theorem afterCount_confok : (afterCount s).confok = s.confok := rfl
@[simp] theorem afterCount_thermbuf : (afterCount s).thermbuf = s.thermbuf := rfl
@[simp] theorem afterCount_arrbuf : (afterCount s).arrbuf = s.arrbuf := rfl
@[simp] theorem afterCount_csumacc : (afterCount s).csumacc = s.csumacc := rfl
@[simp] theorem afterCount_therm : (afterCount s).therm = s.thermbuf[1] ++ s.thermbuf[0] := rfl
@[simp] theorem afterCount_pktcnt : (afterCount s).pktcnt = s.pktcnt + 1 := rfl
@[simp] theorem afterCount_itercnt : (afterCount s).itercnt = s.itercnt := rfl
@[simp] theorem afterCount_cfg : (afterCount s).cfg = s.cfg := rfl
@[simp] theorem afterCount_sum : (afterCount s).sum = s.sum := rfl
@[simp] theorem afterCount_samples : (afterCount s).samples = s.samples := rfl
@[simp] theorem afterCount_prevvalid : (afterCount s).prevvalid = s.prevvalid := rfl
@[simp] theorem afterCount_prev : (afterCount s).prev = s.prev := rfl
@[simp] theorem afterCount_occ : (afterCount s).occ = s.occ := rfl
@[simp] theorem afterCount_mot : (afterCount s).mot = s.mot := rfl
@[simp] theorem afterCount_params : (afterCount s).params = s.params := rfl
@[simp] theorem afterCount_inbox : (afterCount s).inbox = s.inbox := rfl
@[simp] theorem afterCount_outbox : (afterCount s).outbox = s.outbox := rfl
@[simp] theorem afterCount_yielded : (afterCount s).yielded = s.yielded := rfl

/-! ### The end of an iteration (R127) -/

@[simp] theorem afterIteration_runstate (l : List Output) :
    (afterIteration s l).runstate = if lastIteration s then .stopped else s.runstate := rfl
@[simp] theorem afterIteration_phase (l : List Output) : (afterIteration s l).phase = .hunt := rfl
@[simp] theorem afterIteration_fidx (l : List Output) : (afterIteration s l).fidx = 0 := rfl
@[simp] theorem afterIteration_scancnt (l : List Output) : (afterIteration s l).scancnt = 0 := rfl
@[simp] theorem afterIteration_confok (l : List Output) : (afterIteration s l).confok = false := rfl
@[simp] theorem afterIteration_thermbuf (l : List Output) : (afterIteration s l).thermbuf = s.thermbuf := rfl
@[simp] theorem afterIteration_arrbuf (l : List Output) : (afterIteration s l).arrbuf = s.arrbuf := rfl
@[simp] theorem afterIteration_csumacc (l : List Output) : (afterIteration s l).csumacc = s.csumacc := rfl
@[simp] theorem afterIteration_therm (l : List Output) : (afterIteration s l).therm = s.therm := rfl
@[simp] theorem afterIteration_pktcnt (l : List Output) : (afterIteration s l).pktcnt = s.pktcnt := rfl
@[simp] theorem afterIteration_itercnt (l : List Output) :
    (afterIteration s l).itercnt = if s.cfg.iterLimit = 0 then s.itercnt else s.itercnt + 1 := rfl
@[simp] theorem afterIteration_cfg (l : List Output) : (afterIteration s l).cfg = s.cfg := rfl
@[simp] theorem afterIteration_sum (l : List Output) : (afterIteration s l).sum = s.sum := rfl
@[simp] theorem afterIteration_samples (l : List Output) : (afterIteration s l).samples = s.samples := rfl
@[simp] theorem afterIteration_prevvalid (l : List Output) : (afterIteration s l).prevvalid = s.prevvalid := rfl
@[simp] theorem afterIteration_prev (l : List Output) : (afterIteration s l).prev = s.prev := rfl
@[simp] theorem afterIteration_occ (l : List Output) : (afterIteration s l).occ = s.occ := rfl
@[simp] theorem afterIteration_mot (l : List Output) : (afterIteration s l).mot = s.mot := rfl
@[simp] theorem afterIteration_params (l : List Output) : (afterIteration s l).params = s.params := rfl
@[simp] theorem afterIteration_inbox (l : List Output) : (afterIteration s l).inbox = s.inbox := rfl
@[simp] theorem afterIteration_outbox (l : List Output) :
    (afterIteration s l).outbox = s.outbox ++ l ++ (if lastIteration s then [.tx s.params.stopCmd] else []) := rfl
@[simp] theorem afterIteration_yielded (l : List Output) : (afterIteration s l).yielded = s.yielded := rfl

end Sys2Proof.Machine
end

