-- ==== Sys2Proof/Laws/Ops.lean ====
section
/-! SUPPORT. What each shared operation can do, said once: the step, the end of an iteration, entering an error, the
averager, the detectors, the trigger check, and the arithmetic helpers. Later proofs cite these and do not unfold the
operations. -/

namespace Sys2Proof

/-! ### Operand forms -/

/-- Two bytes as a number: `lo + 256 × hi`. -/
theorem halfOfBytes_toNat (lo hi : Byte) : (halfOfBytes lo hi).toNat = 256 * hi.toNat + lo.toNat := by
  have h := lo.isLt
  simp only [halfOfBytes]
  rw [BitVec.toNat_append, Nat.shiftLeft_eq, Nat.mul_comm, ← Nat.two_pow_add_eq_or_of_lt h hi.toNat]

/-- 20_memory.md R46: the value of a field is `lo + 256 × hi`, minus 65536 if `hi >= 128`. -/
theorem halfOfBytes_toInt (lo hi : Byte) :
    (halfOfBytes lo hi).toInt =
      (lo.toNat : Int) + 256 * (hi.toNat : Int) - (if 128 ≤ hi.toNat then 65536 else 0) := by
  have h1 := lo.isLt
  have h2 := hi.isLt
  rw [BitVec.toInt_eq_toNat_cond, halfOfBytes_toNat]
  split <;> split <;> omega

/-- The two bytes of a 16-bit value give it back. -/
@[simp] theorem halfOfBytes_loByte_hiByte (v : Half) : halfOfBytes (loByte v) (hiByte v) = v := by
  apply BitVec.eq_of_toNat_eq
  have h := v.isLt
  rw [halfOfBytes_toNat]
  simp only [loByte, hiByte, BitVec.extractLsb'_toNat, Nat.shiftRight_eq_div_pow]
  omega

@[simp] theorem loByte_halfOfBytes (lo hi : Byte) : loByte (halfOfBytes lo hi) = lo := by
  apply BitVec.eq_of_toNat_eq
  have h := lo.isLt
  simp only [loByte, BitVec.extractLsb'_toNat, Nat.shiftRight_zero, halfOfBytes_toNat]
  omega

@[simp] theorem hiByte_halfOfBytes (lo hi : Byte) : hiByte (halfOfBytes lo hi) = hi := by
  apply BitVec.eq_of_toNat_eq
  have h := lo.isLt
  have h' := hi.isLt
  simp only [hiByte, BitVec.extractLsb'_toNat, Nat.shiftRight_eq_div_pow, halfOfBytes_toNat]
  omega

/-- The cells of a grid built cell by cell. -/
@[simp] theorem Grid.cell_build {α : Type} (f : Fin 8 → Fin 8 → α) (r c : Fin 8) : (Grid.build f).cell r c = f r c := by
  have h1 : (8 * r.val + c.val) / 8 = r.val := by omega
  have h2 : (8 * r.val + c.val) % 8 = c.val := by omega
  simp [Grid.build, Grid.cell, cellIndex, h1, h2]

@[simp] theorem Grid.cell_all {α : Type} (v : α) (r c : Fin 8) : (Grid.all v).cell r c = v := by
  simp [Grid.all, Grid.cell]

/-- Grids with equal cells are equal. -/
theorem Grid.eq_of_cell {α : Type} {g h : Grid α} (e : ∀ r c, g.cell r c = h.cell r c) : g = h := by
  apply Vector.ext
  intro i hi
  have := e ⟨i / 8, by omega⟩ ⟨i % 8, by omega⟩
  simpa [Grid.cell, cellIndex, Nat.div_add_mod] using this

/-- The sum over the 64 cells as a double sum. -/
theorem sumCells_eq_sum (f : Fin 8 → Fin 8 → Int) : sumCells f = ∑ r, ∑ c, f r c := by
  simp [sumCells, List.finRange, Fin.sum_univ_succ]

/-- One addition into the running checksum is the sum modulo 256 (41_packet_checksum.md R91). -/
theorem addCsum_eq_mod (a b : Byte) : addCsum a b = BitVec.ofNat 8 ((a.toNat + b.toNat) % 256) := by
  apply BitVec.eq_of_toNat_eq
  simp [addCsum]

/-- Every cell is added in its own lane, sign-extended (43_averager.md R106). -/
@[simp] theorem addFrame_cell (sum : SumGrid) (f : Frame) (r c : Fin 8) :
    (addFrame sum f).cell r c = sum.cell r c + (f.cell r c).signExtend 32 := by
  simp [addFrame]

namespace Machine

/-! ### The step -/

/-- Everything a step that answers a next state can have done. -/
theorem step_next_cases {s t : State} (h : step s = .next t) :
    (s.inbox = [] ∧ t = s) ∨
    ∃ e rest i, s.inbox = e :: rest ∧ select s.params s.seq e = .ok i ∧ exec i s.popInbox = .next t := by
  unfold step at h
  split at h
  · cases h
    exact .inl ⟨‹_›, rfl⟩
  · rename_i e rest hin
    split at h
    · rename_i i hsel
      exact .inr ⟨e, rest, i, hin, hsel, h⟩
    · cases h

/-! ### The end of an iteration and entering an error -/

/-- `ITER.END` after the iteration's own events were emitted, in closed form (45_controller.md R127). -/
theorem iterEnd_after (s : State) (l : List Output) :
    iterEnd { s with outbox := s.outbox ++ l } = afterIteration s l := by
  simp only [iterEnd, countIteration, rewind, afterIteration, lastIteration, sendStop, State.emit]
  by_cases h : s.cfg.iterLimit = 0
  · simp [h]
  · have h1 : s.cfg.iterLimit ≠ 0#32 := h
    by_cases h2 : s.itercnt + 1 = s.cfg.iterLimit
    · simp only [BitVec.ofNat_eq_ofNat] at h2
      simp [h2, h1]
    · simp only [BitVec.ofNat_eq_ofNat] at h2
      simp [h2, h1]

/-- A recoverable error (60_exceptions.md R144, R145) reports and ends the iteration. -/
theorem raise_recoverable (c : ErrorCause) (s : State) (h : errorCode c = 1 ∨ errorCode c = 2) :
    raise c s = afterIteration s [.err (errorCode c) (errorInfo c)] := by
  rw [← iterEnd_after]
  cases c <;> first | rfl | simp [errorCode] at h

/-- A fatal condition (R146, R147) reports, tells the device to stop if it can, and halts. -/
theorem raise_fatal (c : ErrorCause) (s : State) (h : errorCode c = 3 ∨ errorCode c = 5) :
    raise c s =
      { s with
        runstate := .halted
        outbox := s.outbox ++
          (.err (errorCode c) (errorInfo c) :: if c = .linkFailure false then [] else [.tx s.params.stopCmd]) } := by
  cases c with
  | linkFailure txAvail => cases txAvail <;> simp [raise, enterError, sendStop, State.emit]
  | counterOverflow => simp [raise, enterError, sendStop, State.emit]
  | _ => simp [errorCode] at h

/-! ### The pipeline's operations -/

/-- `PIPE.RUN` runs exactly where the state is ready for it. -/
theorem runPipeline_eq_next_iff (s t : State) : runPipeline s = .next t ↔ PipelineReady s ∧ t = pipeline s := by
  have key : PipelineReady s → runPipeline s = .next (pipeline s) := by
    rintro ⟨h1, h2, h3⟩
    simp only [runPipeline, h1, Nat.not_le.mpr h2, if_false]
    rw [if_neg, if_neg]
    · rintro ⟨h4, h5⟩
      rw [h3 h4] at h5
      cases h5
    · simp
  constructor
  · intro h
    have hr : PipelineReady s := by
      unfold runPipeline at h
      split at h
      · cases h
      · split at h
        · cases h
        · split at h
          · cases h
          · rename_i h1 h2 h3
            refine ⟨by simpa using h1, Nat.lt_of_not_le h2, fun h4 => ?_⟩
            by_contra h5
            exact h3 ⟨h4, by simpa using h5⟩
    rw [key hr] at h
    cases h
    exact ⟨hr, rfl⟩
  · rintro ⟨hr, rfl⟩
    exact key hr

/-- `ACC.ADD` on a frame that does not complete the window. -/
theorem accAdd_incomplete (f : Frame) (s : State) (h : s.samples + 1 ≠ s.cfg.n) :
    accAdd f s = { s with sum := addFrame s.sum f, samples := s.samples + 1, yielded := .nothing } := by
  simp only [accAdd, h, if_false, State.yield]

/-- `ACC.ADD` on the frame that completes the window: `ACC.EMIT` yields the sum and starts anew. -/
theorem accAdd_complete (f : Frame) (s : State) (h : s.samples + 1 = s.cfg.n) :
    accAdd f s =
      { s with sum := Grid.all 0, samples := 0, yielded := .avg { S := addFrame s.sum f, n := s.cfg.n } } := by
  simp only [accAdd, h, if_true, accEmit]

/-- `DEC.FRAME` then `ACC.ADD` of the decoded frame. -/
theorem decodeAndAdd_eq_accAdd (s : State) :
    decodeAndAdd s = accAdd (decodeFrame s.arrbuf) { s with yielded := .frame (decodeFrame s.arrbuf) } := by
  simp only [decodeAndAdd, decFrame, State.yield]

/-- `TRIG.CHK` appends its report and nothing else. -/
theorem trigChk_eq_report (s : State) : trigChk s = { s with outbox := s.outbox ++ triggerReport s.cfg s.pktcnt } := by
  simp only [trigChk, triggerReport, State.emit]
  split <;> simp

/-- The flip-flop, its three branches (44_detectors.md R112, R115). -/
theorem schmitt_cases (above below entry old : Bool) :
    schmitt above below entry old =
      if above = true then (if entry = true then true else old) else if below = true then false else old := rfl

/-! ### The terms of the statements -/

/-- The sum of the newest `k + 1` frames is the newest one and the newest `k` of those before it. -/
@[simp] theorem sumOfNewest_cons (f : Frame) (frames : List Frame) (k : Nat) (r c : Fin 8) :
    sumOfNewest (f :: frames) (k + 1) r c = (f.cell r c).toInt + sumOfNewest frames k r c := by
  simp [sumOfNewest]

/-- `MOT.UPD` of the first frame, with the `OCC` that stands with it, then of the others. -/
theorem feedMotion_cons (occ : Bool) (a : Avg) (rest : List (Bool × Avg)) (s : State) :
    feedMotion ((occ, a) :: rest) s =
      feedMotion rest { s with occ := occ, mot := motNext s.cfg a s.prev occ s.mot, prev := a.S } := rfl

/-! ### The reader's two byte operations -/

/-- Everything `RD.THERM` can do. -/
theorem execRdTherm_cases {b : Byte} {s t : State} (h : execRdTherm b s = .next t) :
    ∃ hi : s.fidx.toNat < 2,
      t = { s with thermbuf := s.thermbuf.set s.fidx.toNat b, csumacc := addCsum s.csumacc b,
                   phase := if s.fidx = 0 then s.phase else .array, fidx := if s.fidx = 0 then 1 else 0 } := by
  unfold execRdTherm at h
  split at h
  · rename_i hi
    refine ⟨hi, ?_⟩
    cases h
    split <;> rfl
  · cases h

/-- Everything `RD.ARRAY` can do. -/
theorem execRdArray_cases {b : Byte} {s t : State} (h : execRdArray b s = .next t) :
    ∃ hi : s.fidx.toNat < 128,
      t = { s with arrbuf := s.arrbuf.set s.fidx.toNat b, csumacc := addCsum s.csumacc b,
                   phase := if s.fidx.toNat < 127 then s.phase else .csum,
                   fidx := if s.fidx.toNat < 127 then s.fidx + 1 else 0 } := by
  unfold execRdArray at h
  split at h
  · rename_i hi
    refine ⟨hi, ?_⟩
    cases h
    split <;> rfl
  · cases h

/-- Everything `PKT.ACCEPT` can do. -/
theorem acceptPacket_cases {s t : State} (h : acceptPacket s = .next t) :
    (s.pktcnt = 0xFFFFFFFF#32 ∧ t = raise .counterOverflow s) ∨
    (s.pktcnt ≠ 0xFFFFFFFF#32 ∧ PipelineReady (afterCount s) ∧ t = pipeline (afterCount s)) := by
  unfold acceptPacket at h
  split at h
  · cases h
    exact .inl ⟨‹_›, rfl⟩
  · exact .inr ⟨‹_›, (runPipeline_eq_next_iff (afterCount s) t).1 h⟩

/-! ### Configuration writes -/

/-- `CFG.WR` touches the configuration only, and only in `IDLE` (10_state.md R28). -/
theorem cfgWr_eq (w : CfgWrite) (s : State) :
    cfgWr w s = { s with cfg := if s.runstate = .idle then writeCfg s.cfg w else s.cfg } := by
  unfold cfgWr
  split <;> rfl

end Machine

end Sys2Proof
end

