-- ==== Sys2Proof/Laws/PerInstr.lean ====
section
/-! SUPPORT. Statements made per instruction. -/

namespace Sys2Proof.Laws

/-- 30_encoding.md R65, R66: exactly the rows of format `RX` and `HOST` are carried by an input event, exactly those of
format `WIRE` by bytes on the wire, and those of format `SEQ` are selected by nothing. -/
def Carriage.Statement (i : Instr) : Prop :=
  ∀ p : Params,
    (i.event?.isSome = true ↔ i.format = .rx ∨ i.format = .host) ∧
    ((i.bytes? p).isSome = true ↔ i.format = .wire) ∧
    (i.format = .seq → ∀ q, i.selectedAt p q = false)

/-- The statement for a row that an event carries. -/
theorem carriage_of_event {i : Instr} {e : Event} (he : i.event? = some e) (hb : ∀ p, i.bytes? p = none)
    (hf : i.format = .rx ∨ i.format = .host) : Carriage.Statement i := by
  intro p
  rcases hf with hf | hf <;> simp [he, hb p, hf]

/-- The statement for a row that bytes carry. -/
theorem carriage_of_bytes {i : Instr} (he : i.event? = none) (hb : ∀ p, (i.bytes? p).isSome = true)
    (hf : i.format = .wire) : Carriage.Statement i := by
  intro p
  simp [he, hb p, hf]

/-- The statement for a row without an encoding. -/
theorem carriage_of_none {i : Instr} (he : i.event? = none) (hb : ∀ p, i.bytes? p = none) (hf : i.format = .seq)
    (hs : ∀ p q, i.selectedAt p q = false) : Carriage.Statement i := by
  intro p
  simp [he, hb p, hf, hs p]

theorem Carriage.syncSkip (b : Byte) : Carriage.Statement (.syncSkip b) :=
  carriage_of_event rfl (fun _ => rfl) (.inl rfl)

theorem Carriage.syncFirst (b : Byte) : Carriage.Statement (.syncFirst b) :=
  carriage_of_event rfl (fun _ => rfl) (.inl rfl)

theorem Carriage.syncWindowHunt (b : Byte) : Carriage.Statement (.syncWindowHunt b) :=
  carriage_of_event rfl (fun _ => rfl) (.inl rfl)

theorem Carriage.syncConf1 (b : Byte) : Carriage.Statement (.syncConf1 b) :=
  carriage_of_event rfl (fun _ => rfl) (.inl rfl)

theorem Carriage.syncWindowConfirm (b : Byte) : Carriage.Statement (.syncWindowConfirm b) :=
  carriage_of_event rfl (fun _ => rfl) (.inl rfl)

theorem Carriage.syncConf2 (b : Byte) : Carriage.Statement (.syncConf2 b) :=
  carriage_of_event rfl (fun _ => rfl) (.inl rfl)

theorem Carriage.rdTherm (b : Byte) : Carriage.Statement (.rdTherm b) :=
  carriage_of_event rfl (fun _ => rfl) (.inl rfl)

theorem Carriage.rdArray (b : Byte) : Carriage.Statement (.rdArray b) :=
  carriage_of_event rfl (fun _ => rfl) (.inl rfl)

theorem Carriage.rdCsum (b : Byte) : Carriage.Statement (.rdCsum b) :=
  carriage_of_event rfl (fun _ => rfl) (.inl rfl)

theorem Carriage.rxDrop (b : Byte) : Carriage.Statement (.rxDrop b) :=
  carriage_of_event rfl (fun _ => rfl) (.inl rfl)

theorem Carriage.pktReject (b : Byte) : Carriage.Statement (.pktReject b) :=
  carriage_of_none rfl (fun _ => rfl) rfl fun _ _ => rfl

theorem Carriage.pktAccept : Carriage.Statement .pktAccept :=
  carriage_of_none rfl (fun _ => rfl) rfl fun _ _ => rfl

theorem Carriage.pipeRun : Carriage.Statement .pipeRun :=
  carriage_of_none rfl (fun _ => rfl) rfl fun _ _ => rfl

theorem Carriage.decFrame : Carriage.Statement .decFrame :=
  carriage_of_none rfl (fun _ => rfl) rfl fun _ _ => rfl

theorem Carriage.accAdd (f : Frame) : Carriage.Statement (.accAdd f) :=
  carriage_of_none rfl (fun _ => rfl) rfl fun _ _ => rfl

theorem Carriage.accEmit : Carriage.Statement .accEmit :=
  carriage_of_none rfl (fun _ => rfl) rfl fun _ _ => rfl

theorem Carriage.occUpd (a : Avg) : Carriage.Statement (.occUpd a) :=
  carriage_of_none rfl (fun _ => rfl) rfl fun _ _ => rfl

theorem Carriage.motFirst (a : Avg) : Carriage.Statement (.motFirst a) :=
  carriage_of_none rfl (fun _ => rfl) rfl fun _ _ => rfl

theorem Carriage.motUpd (a : Avg) : Carriage.Statement (.motUpd a) :=
  carriage_of_none rfl (fun _ => rfl) rfl fun _ _ => rfl

theorem Carriage.frameOut (a : Avg) : Carriage.Statement (.frameOut a) :=
  carriage_of_none rfl (fun _ => rfl) rfl fun _ _ => rfl

theorem Carriage.trigChk : Carriage.Statement .trigChk :=
  carriage_of_none rfl (fun _ => rfl) rfl fun _ _ => rfl

theorem Carriage.iterEnd : Carriage.Statement .iterEnd :=
  carriage_of_none rfl (fun _ => rfl) rfl fun _ _ => rfl

theorem Carriage.cmdStart : Carriage.Statement .cmdStart :=
  carriage_of_event rfl (fun _ => rfl) (.inr rfl)

theorem Carriage.cmdStop : Carriage.Statement .cmdStop :=
  carriage_of_event rfl (fun _ => rfl) (.inr rfl)

theorem Carriage.cfgWrN (v : Half) : Carriage.Statement (.cfgWrN v) :=
  carriage_of_event rfl (fun _ => rfl) (.inr rfl)

theorem Carriage.cfgWrOccEnter (v : Half) : Carriage.Statement (.cfgWrOccEnter v) :=
  carriage_of_event rfl (fun _ => rfl) (.inr rfl)

theorem Carriage.cfgWrOccExit (v : Half) : Carriage.Statement (.cfgWrOccExit v) :=
  carriage_of_event rfl (fun _ => rfl) (.inr rfl)

theorem Carriage.cfgWrMotEnter (v : Half) : Carriage.Statement (.cfgWrMotEnter v) :=
  carriage_of_event rfl (fun _ => rfl) (.inr rfl)

theorem Carriage.cfgWrMotExit (v : Half) : Carriage.Statement (.cfgWrMotExit v) :=
  carriage_of_event rfl (fun _ => rfl) (.inr rfl)

theorem Carriage.cfgWrIterLimit (v : Word) : Carriage.Statement (.cfgWrIterLimit v) :=
  carriage_of_event rfl (fun _ => rfl) (.inr rfl)

theorem Carriage.cfgWrTrig (i : Fin 8) (valid : Bool) (count : Word) : Carriage.Statement (.cfgWrTrig i valid count) :=
  carriage_of_event rfl (fun _ => rfl) (.inr rfl)

theorem Carriage.reset : Carriage.Statement .reset :=
  carriage_of_event rfl (fun _ => rfl) (.inr rfl)

theorem Carriage.linkFail (txAvail : Bool) : Carriage.Statement (.linkFail txAvail) :=
  carriage_of_event rfl (fun _ => rfl) (.inr rfl)

theorem Carriage.packet (therm : Half) (vals : Vector Half 64) : Carriage.Statement (.packet therm vals) :=
  carriage_of_bytes rfl (fun _ => rfl) rfl

theorem Carriage.ctlStart : Carriage.Statement .ctlStart :=
  carriage_of_bytes rfl (fun _ => rfl) rfl

theorem Carriage.ctlStop : Carriage.Statement .ctlStop :=
  carriage_of_bytes rfl (fun _ => rfl) rfl

end Sys2Proof.Laws
end

