-- ==== Sys2Proof/Laws/Run.lean ====
section
/-! SUPPORT. Runs of several steps: composing them, and the one induction that carries an invariant along a run. -/

namespace Sys2Proof.Machine

/-- A run of no step. -/
@[simp] theorem run_zero (s : State) : Host.Core.run core 0 s = .next s := rfl

/-- A run that begins with a step that answers a next state. -/
theorem run_succ_of_next {s t : State} (h : step s = .next t) (k : Nat) :
    Host.Core.run core (k + 1) s = Host.Core.run core k t := by
  have h' : core.step s = .next t := h
  simp only [Host.Core.run]
  rw [h']

/-- A run of `m + k` steps continues the run of `m` steps. -/
theorem run_add_of_next {m : Nat} : ∀ {s t : State}, Host.Core.run core m s = .next t → ∀ k,
    Host.Core.run core (m + k) s = Host.Core.run core k t := by
  induction m with
  | zero =>
    intro s t h k
    cases h
    rw [Nat.zero_add]
  | succ m ih =>
    intro s t h k
    rw [Nat.succ_add]
    simp only [Host.Core.run] at h ⊢
    split at h
    · exact ih h k
    · cases h
    · cases h

/-- What every step keeps, every run keeps. -/
theorem run_keeps {P : State → Prop} (hstep : ∀ s t, P s → step s = .next t → P t) :
    ∀ (k : Nat) (s t : State), P s → Host.Core.run core k s = .next t → P t := by
  intro k
  induction k with
  | zero =>
    intro s t hs h
    cases h
    exact hs
  | succ k ih =>
    intro s t hs h
    simp only [Host.Core.run] at h
    split at h
    · rename_i u hu
      exact ih u t (hstep s u hs hu) h
    · cases h
    · cases h

end Sys2Proof.Machine
end

