-- ==== Sys2Proof/Tests/Slice0.lean ====
section
/-! SUPPORT. The model's own tests: ill-formed terms that the check refuses, words and events written out from the spec's
encodings, single steps of 95_test_vectors.md (its vector's name stands with each), and for every statement that has
hypotheses a state and operands that meet them. The parameter values are the example values of 95_test_vectors.md
section 1. -/

namespace Sys2Proof.Tests

open Sys2Proof Sys2Proof.Machine

/-- `MARKER = 2A`, `START_CMD = A1`, `STOP_CMD = A0` (95_test_vectors.md section 1). -/
def sample : Params := ⟨0x2A, 0xA1, 0xA0⟩

/-- Reset, under the example parameters. -/
def idle : State := { State.reset with params := sample }

/-- A run that has just begun. -/
def running : State := { idle with runstate := .run }

/-- The state an outcome answers, if it answers one. -/
def after (o : Result) : Option State :=
  match o with
  | .next t => some t
  | .fault _ | .refused _ => none

/-- The outcome is a next state with this property. -/
abbrev Completes (o : Result) (p : State → Bool) : Prop := (after o).any p = true

theorem exists_next_of_completes {o : Result} {p : State → Bool} (h : Completes o p) :
    ∃ t, o = .next t ∧ p t = true := by
  cases o with
  | next t => exact ⟨t, rfl, h⟩
  | fault r => cases h
  | refused r => cases h

/-- What the vectors of 95_test_vectors.md show of the sequencing state and the outputs. -/
def seen (s : State) : RunState × Phase × Byte × Byte × Bool × List Output :=
  (s.runstate, s.phase, s.fidx, s.scancnt, s.confok, s.outbox)

/-- A grid that is 0 but for cell `[0][0]` (`single(h)` of 95_test_vectors.md section 3.5). -/
def single (h : Int) : SumGrid := (Grid.all 0).set 0 (BitVec.ofInt 32 h)

/-- A state that has read all of `PKTC(250; 72)` but its checksum byte. -/
def beforeChecksum : State :=
  { running with
    phase := .csum
    scancnt := 3
    confok := true
    thermbuf := #v[0xFA, 0x00]
    arrbuf := Vector.ofFn fun i : Fin 128 => if i.val % 2 = 0 then 0x48 else 0
    csumacc := 0xFA
    inbox := [.rx 0xFA] }

/-! ### Well-formedness: one ill-formed term for each check -/

theorem test_wellFormed_skip_is_not_the_marker :
    (Instr.syncSkip 0x2A).wellFormed sample = false ∧ (Instr.syncSkip 0x00).wellFormed sample = true := by decide

theorem test_wellFormed_first_is_the_marker :
    (Instr.syncFirst 0x00).wellFormed sample = false ∧ (Instr.syncFirst 0x2A).wellFormed sample = true := by decide

theorem test_wellFormed_average_has_a_denominator :
    (Instr.occUpd ⟨Grid.all 0, 0⟩).wellFormed sample = false ∧
      (Instr.frameOut ⟨Grid.all 0, 0⟩).wellFormed sample = false ∧
      (Instr.occUpd ⟨Grid.all 0, 1⟩).wellFormed sample = true := by decide

theorem test_wellFormed_average_cells_are_bounded :
    (Instr.motFirst ⟨single 32769, 1⟩).wellFormed sample = false ∧
      (Instr.motUpd ⟨single (-32769), 1⟩).wellFormed sample = false ∧
      (Instr.motUpd ⟨single (-32768), 1⟩).wellFormed sample = true := by decide

theorem test_wellFormed_control_bytes_differ :
    Instr.ctlStart.wellFormed ⟨0x2A, 0xA1, 0xA1⟩ = false ∧ Instr.ctlStop.wellFormed ⟨0x2A, 0xA1, 0xA1⟩ = false ∧
      Instr.ctlStart.wellFormed sample = true := by decide

/-! ### Decoding: each row from the spec's encoding of it (30_encoding.md R61, R64, R65) -/

theorem test_decode_sync_rows :
    select sample ⟨.run, .hunt, 0, 0⟩ (.rx 0b00000000) = .ok (.syncSkip 0x00) ∧
    select sample ⟨.run, .hunt, 0, 132⟩ (.rx 0b00101010) = .ok (.syncFirst 0x2A) ∧
    select sample ⟨.run, .hunt, 0, 133⟩ (.rx 0b00101010) = .ok (.syncWindowHunt 0x2A) ∧
    select sample ⟨.run, .confirm, 0, 1⟩ (.rx 0b00101010) = .ok (.syncConf1 0x2A) ∧
    select sample ⟨.run, .confirm, 0, 133⟩ (.rx 0b00000000) = .ok (.syncWindowConfirm 0x00) ∧
    select sample ⟨.run, .confirm, 1, 133⟩ (.rx 0b00101010) = .ok (.syncConf2 0x2A) := by decide

theorem test_decode_reader_rows :
    select sample ⟨.run, .therm, 1, 134⟩ (.rx 0b11111010) = .ok (.rdTherm 0xFA) ∧
    select sample ⟨.run, .array, 127, 3⟩ (.rx 0b01001000) = .ok (.rdArray 0x48) ∧
    select sample ⟨.run, .csum, 0, 3⟩ (.rx 0b00101010) = .ok (.rdCsum 0x2A) ∧
    select sample ⟨.halted, .array, 9, 3⟩ (.rx 0b00101010) = .ok (.rxDrop 0x2A) := by decide

theorem test_decode_host_rows :
    select sample ⟨.run, .array, 9, 3⟩ .reset = .ok .reset ∧
    select sample ⟨.idle, .hunt, 0, 0⟩ .start = .ok .cmdStart ∧
    select sample ⟨.run, .hunt, 0, 0⟩ .stop = .ok .cmdStop ∧
    select sample ⟨.run, .hunt, 0, 0⟩ (.linkFail true) = .ok (.linkFail true) ∧
    select sample ⟨.idle, .hunt, 0, 0⟩ (.cfgWr (.n 4)) = .ok (.cfgWrN 4) ∧
    select sample ⟨.idle, .hunt, 0, 0⟩ (.cfgWr (.occEnter 31)) = .ok (.cfgWrOccEnter 31) ∧
    select sample ⟨.idle, .hunt, 0, 0⟩ (.cfgWr (.occExit 26)) = .ok (.cfgWrOccExit 26) ∧
    select sample ⟨.idle, .hunt, 0, 0⟩ (.cfgWr (.motEnter 21)) = .ok (.cfgWrMotEnter 21) ∧
    select sample ⟨.idle, .hunt, 0, 0⟩ (.cfgWr (.motExit 12)) = .ok (.cfgWrMotExit 12) ∧
    select sample ⟨.idle, .hunt, 0, 0⟩ (.cfgWr (.iterLimit 3)) = .ok (.cfgWrIterLimit 3) ∧
    select sample ⟨.idle, .hunt, 0, 0⟩ (.cfgWr (.trig 7 true 5)) = .ok (.cfgWrTrig 7 true 5) := by decide

/-- Combinations that are not in R65's table. -/
theorem test_decode_refuses_unreachable :
    select sample ⟨.run, .hunt, 0, 134⟩ (.rx 0) = .error .unreachableSelection ∧
    select sample ⟨.run, .hunt, 1, 0⟩ (.rx 0) = .error .unreachableSelection ∧
    select sample ⟨.run, .confirm, 0, 0⟩ (.rx 0) = .error .unreachableSelection ∧
    select sample ⟨.run, .confirm, 1, 1⟩ (.rx 0) = .error .unreachableSelection ∧
    select sample ⟨.run, .therm, 2, 3⟩ (.rx 0) = .error .unreachableSelection ∧
    select sample ⟨.run, .array, 128, 3⟩ (.rx 0) = .error .unreachableSelection ∧
    select sample ⟨.run, .csum, 1, 3⟩ (.rx 0) = .error .unreachableSelection := by decide

/-- The first 67 bytes of DEC-1 (95_test_vectors.md section 3.3). -/
def dec1Front : List Byte :=
  [0x2A, 0x2A, 0x2A, 0x9C, 0xFF,
   0x00, 0x00, 0x01, 0x00, 0x02, 0x00, 0x03, 0x00, 0x04, 0x00, 0x05, 0x00, 0x06, 0x00, 0x07, 0x00,
   0x08, 0x00, 0x09, 0x00, 0x0A, 0x00, 0x0B, 0x00, 0x0C, 0x00, 0x0D, 0x00, 0x0E, 0x00, 0x0F, 0x00,
   0x10, 0x00, 0x11, 0x00, 0x12, 0x00, 0x13, 0x00, 0x14, 0x00, 0x15, 0x00, 0x16, 0x00, 0x17, 0x00,
   0x18, 0x00, 0x19, 0x00, 0x1A, 0x00, 0x1B, 0x00, 0x1C, 0x00, 0x1D, 0x00, 0x1E, 0x00]

/-- The other 67 bytes of DEC-1. -/
def dec1Back : List Byte :=
  [0x1F, 0x00,
   0x20, 0x00, 0x21, 0x00, 0x22, 0x00, 0x23, 0x00, 0x24, 0x00, 0x25, 0x00, 0x26, 0x00, 0x27, 0x00,
   0x28, 0x00, 0x29, 0x00, 0x2A, 0x00, 0x2B, 0x00, 0x2C, 0x00, 0x2D, 0x00, 0x2E, 0x00, 0x2F, 0x00,
   0x30, 0x00, 0x31, 0x00, 0x32, 0x00, 0x33, 0x00, 0x34, 0x00, 0x35, 0x00, 0x36, 0x00, 0x37, 0x00,
   0x38, 0x00, 0x39, 0x00, 0x3A, 0x00, 0x3B, 0x00, 0x3C, 0x00, 0x3D, 0x00, 0x3E, 0x00, 0x3F, 0x00, 0x7B]

/-- DEC-1: thermistor −100 and array values 0 to 63. -/
theorem test_decode_packet_dec1 :
    decodeWire sample (dec1Front ++ dec1Back) =
      .ok (.packet 0xFF9C (Vector.ofFn fun k : Fin 64 => BitVec.ofNat 16 k.val)) := by decide +kernel

theorem test_decode_packet_refusals :
    decodeWire sample (0x00 :: (dec1Front ++ dec1Back).drop 1) = .error .noMarker ∧
    decodeWire sample ((dec1Front ++ dec1Back).set 133 0x7C) = .error .badChecksum ∧
    decodeWire sample (dec1Front ++ dec1Back ++ [0x00]) = .error .wireLength := by decide +kernel

theorem test_decode_control_bytes :
    decodeWire sample [0b10100001] = .ok .ctlStart ∧ decodeWire sample [0b10100000] = .ok .ctlStop ∧
    decodeWire sample [0x00] = .error .unknownControl := by decide

theorem test_encode_packet_dec1 :
    (Instr.packet 0xFF9C (Vector.ofFn fun k : Fin 64 => BitVec.ofNat 16 k.val)).bytes? sample =
      some (dec1Front ++ dec1Back) := by decide +kernel

/-- The word layout of log 8: `RUN`, `ARRAY`, `FIDX = 5`, byte 48; and a word whose `PHASE` code is 5. -/
theorem test_table_words :
    decodeTableWord 8 0x48 = some (.rxDrop 0x48) ∧
    decodeTableWord 32 (0x48 + 1 * 2 ^ 8 + 3 * 2 ^ 10 + 5 * 2 ^ 13) = some (.rdArray 0x48) ∧
    decodeTableWord 32 (0x48 + 1 * 2 ^ 8 + 5 * 2 ^ 10) = none := by decide

/-- What the word of `RD.ARRAY` leaves for the next step, from reset. -/
theorem test_fetch_word_runs :
    Completes (step (State.reset.withFetchWord 32 (0x48 + 1 * 2 ^ 8 + 3 * 2 ^ 10 + 5 * 2 ^ 13)))
      fun t => t.fidx == 6 && t.csumacc == 0x48 && t.arrbuf[5] == 0x48 && t.inbox == [] := by decide

/-- R70: items of the trace notation. -/
theorem test_trace_items :
    expandItem sample (.cfgWr .cfgN 4) = .ok [.cfgWr (.n 4)] ∧
    expandItem sample (.cfgWrTrig 2 1 7) = .ok [.cfgWr (.trig 2 true 7)] ∧
    expandItem sample (.rx [0x2A, 0x00, 0xFF]) = .ok [.rx 0x2A, .rx 0x00, .rx 0xFF] ∧
    expandItem sample (.junk 3 0) = .ok [.rx 0, .rx 0, .rx 0] ∧
    expandItem sample (.linkFail 1) = .ok [.linkFail true] ∧
    expandItem sample (.cfgWrTrig 8 1 7) = .error .noSuchRegister ∧
    expandItem sample (.cfgWr .cfgN 65536) = .error .valueTooWide := by decide

/-- R70, R69: a number that does not fit its field, and a grid of another shape. -/
theorem test_trace_refusals :
    expandItem sample (.cfgWrTrig 7 2 7) = .error .valueTooWide ∧
    expandItem sample (.cfgWrTrig 7 1 4294967296) = .error .valueTooWide ∧
    expandItem sample (.rx [0xFF, 0x100]) = .error .valueTooWide ∧
    expandItem sample (.junk 3 256) = .error .valueTooWide ∧
    expandItem sample (.linkFail 2) = .error .valueTooWide ∧
    expandItem sample (.packet (.pktC (-32769) 0)) = .error .valueTooWide ∧
    expandItem sample (.bad (.pktC 0 32768)) = .error .valueTooWide ∧
    expandItem sample (.packet (.pktF 0 [[0]])) = .error .wrongShape := by decide

/-- R70: `PKTF` of a grid that is 1 at `[0][0]` and 0 elsewhere: `v7 = 1`, at byte offset 19. -/
theorem test_trace_grid_packet :
    ((expandItem sample (.packet (.pktF 0
      ((1 :: List.replicate 7 0) :: List.replicate 7 (List.replicate 8 0))))).toOption.map fun l =>
        (l.length, l[5]?, l[19]?, l[133]?)) = some (134, some (.rx 0), some (.rx 1), some (.rx 1)) := by decide +kernel

/-- R70: `BAD(PKTC(250; 72))` ends in `05`. -/
theorem test_trace_bad_packet :
    (expandItem sample (.bad (.pktC 250 72))).toOption.bind List.getLast? = some (.rx 0x05) := by decide +kernel

/-! ### Single steps: the synchronizer (95_test_vectors.md section 3.1) -/

/-- SY-1. -/
theorem test_syncSkip_counts :
    Completes (step { running with inbox := [.rx 0x00] }) fun t => seen t == (.run, .hunt, 0, 1, false, []) := by decide

/-- SY-15. -/
theorem test_syncFirst_at_132 :
    Completes (step { running with scancnt := 132, inbox := [.rx 0x2A] })
      fun t => seen t == (.run, .confirm, 0, 133, false, []) := by decide

/-- SY-3. -/
theorem test_syncConf1_match :
    Completes (step { running with phase := .confirm, scancnt := 1, inbox := [.rx 0x2A] })
      fun t => seen t == (.run, .confirm, 1, 2, true, []) := by decide

/-- SY-4. -/
theorem test_syncConf1_mismatch :
    Completes (step { running with phase := .confirm, scancnt := 1, confok := true, inbox := [.rx 0x00] })
      fun t => seen t == (.run, .confirm, 1, 2, false, []) := by decide

/-- SY-12. -/
theorem test_syncConf2_success_on_byte_134 :
    Completes (step { running with phase := .confirm, fidx := 1, scancnt := 133, confok := true, csumacc := 7,
                                   inbox := [.rx 0x2A] })
      fun t => seen t == (.run, .therm, 0, 134, true, []) && t.csumacc == 0 := by decide

/-- SY-7. -/
theorem test_syncConf2_failure :
    Completes (step { running with phase := .confirm, fidx := 1, scancnt := 2, inbox := [.rx 0x2A] })
      fun t => seen t == (.run, .hunt, 0, 0, false, [.err 1 1]) := by decide

/-- SY-9. -/
theorem test_syncWindow_from_hunt :
    Completes (step { running with scancnt := 133, inbox := [.rx 0x2A] })
      fun t => seen t == (.run, .hunt, 0, 0, false, [.err 1 0]) := by decide

/-- SY-11. -/
theorem test_syncWindow_from_confirm :
    Completes (step { running with phase := .confirm, scancnt := 133, inbox := [.rx 0x00] })
      fun t => seen t == (.run, .hunt, 0, 0, false, [.err 1 0]) := by decide

/-! ### Single steps: the packet reader (section 3.2) -/

/-- RD-1. -/
theorem test_rdTherm_first :
    Completes (step { running with phase := .therm, scancnt := 3, inbox := [.rx 0xFA] })
      fun t => t.thermbuf == #v[0xFA, 0x00] && t.csumacc == 0xFA && t.phase == .therm && t.fidx == 1 := by decide

/-- RD-2. -/
theorem test_rdTherm_second :
    Completes (step { running with phase := .therm, fidx := 1, scancnt := 3, thermbuf := #v[0xFA, 0x11], csumacc := 0xFA,
                                   inbox := [.rx 0x00] })
      fun t => t.thermbuf == #v[0xFA, 0x00] && t.csumacc == 0xFA && t.phase == .array && t.fidx == 0 := by decide

/-- RD-3: the carry is lost. -/
theorem test_rdArray_wraps :
    Completes (step { running with phase := .array, scancnt := 3, csumacc := 0xFA, inbox := [.rx 0x48] })
      fun t => t.arrbuf[0] == 0x48 && t.csumacc == 0x42 && t.phase == .array && t.fidx == 1 := by decide

/-- RD-4. -/
theorem test_rdArray_last :
    Completes (step { running with phase := .array, fidx := 127, scancnt := 3, csumacc := 0xFA, inbox := [.rx 0x01] })
      fun t => t.arrbuf[127] == 0x01 && t.arrbuf[126] == 0 && t.csumacc == 0xFB && t.phase == .csum && t.fidx == 0 := by
  decide

/-- RD-6, P1's first packet. -/
theorem test_rdCsum_accepts :
    Completes (step beforeChecksum) fun t => t.pktcnt == 1 && t.therm == 250 && t.phase == .hunt && t.outbox.length == 1 := by
  decide

/-- RD-7. -/
theorem test_rdCsum_rejects :
    Completes (step { beforeChecksum with inbox := [.rx 0x05] })
      fun t => t.pktcnt == 0 && t.csumacc == 0xFA && seen t == (.run, .hunt, 0, 0, false, [.err 2 0x05FA]) := by decide

/-- RD-10. -/
theorem test_pktReject_at_the_maximum :
    Completes (exec (.pktReject 0x00) { beforeChecksum with pktcnt := 0xFFFFFFFF })
      fun t => t.runstate == .run && t.outbox == [.err 2 0x00FA] && t.pktcnt == 0xFFFFFFFF := by decide

/-- RD-9. -/
theorem test_pktAccept_at_the_maximum :
    Completes (exec .pktAccept { beforeChecksum with pktcnt := 0xFFFFFFFF })
      fun t => t.runstate == .halted && t.outbox == [.err 5 0, .tx 0xA0] && t.pktcnt == 0xFFFFFFFF && t.phase == .csum := by
  decide

/-- 41_packet_checksum.md R95: `9C FF` is −100. -/
theorem test_pktAccept_decodes_the_thermistor :
    Completes (exec .pktAccept { beforeChecksum with thermbuf := #v[0x9C, 0xFF], cfg := { CfgRegs.reset with n := 2 } })
      fun t => t.therm.toInt == -100 && t.pktcnt == 1 && t.samples == 1 && t.outbox == [] := by decide

/-! ### Single steps: the pipeline (sections 3.3 to 3.7) -/

/-- DEC-1: row 0 of the frame is 7 6 5 4 3 2 1 0, and `F[7][0] = 63`. -/
theorem test_decFrame_mirrors :
    Completes (exec .decFrame { running with arrbuf := Vector.ofFn fun i : Fin 128 => if i.val % 2 = 0 then BitVec.ofNat 8 (i.val / 2) else 0 })
      fun t => match t.yielded with
        | .frame f => f.cell 0 0 == 7 && f.cell 0 7 == 0 && f.cell 3 4 == 27 && f.cell 7 0 == 63 && f.cell 7 7 == 56
        | .nothing | .avg _ => false := by decide

/-- DEC-3, the sign: `00 80` is −32768. -/
theorem test_decFrame_signs :
    Completes (exec .decFrame { running with arrbuf := Vector.ofFn fun i : Fin 128 => if i.val % 2 = 0 then 0x00 else 0x80 })
      fun t => match t.yielded with
        | .frame f => (f.cell 0 0).toInt == -32768
        | .nothing | .avg _ => false := by decide

/-- ACC-4, first frame: a negative cell is sign-extended. -/
theorem test_accAdd_adds :
    Completes (exec (.accAdd (Grid.all 0xFFFB)) { running with cfg := { CfgRegs.reset with n := 2 } })
      fun t => (t.sum.cell 0 0).toInt == -5 && t.samples == 1 && t.yielded == .nothing := by decide

/-- ACC-4, second frame: the window completes with all 1 over 2. -/
theorem test_accAdd_emits :
    Completes (exec (.accAdd (Grid.all 6)) { running with cfg := { CfgRegs.reset with n := 2 }, samples := 1, sum := Grid.all 0xFFFFFFFB })
      fun t => t.samples == 0 && t.sum.cell 7 7 == 0 && t.yielded == .avg ⟨Grid.all 1, 2⟩ := by decide

theorem test_accEmit_snapshots :
    Completes (exec .accEmit { running with cfg := { CfgRegs.reset with n := 3 }, samples := 3, sum := Grid.all 31 })
      fun t => t.samples == 0 && t.sum == Grid.all 0 && t.yielded == .avg ⟨Grid.all 31, 3⟩ := by decide

/-- OCC-10 and OCC-9: 61 over 2 enters, 60 over 2 does not. -/
theorem test_occUpd_enters :
    Completes (exec (.occUpd ⟨single 61, 2⟩) running) (·.occ) ∧
    Completes (exec (.occUpd ⟨single 60, 2⟩) running) (!·.occ) := by decide

/-- OCC-6, OCC-5: 25 clears, 26 does not. -/
theorem test_occUpd_exits :
    Completes (exec (.occUpd ⟨single 25, 1⟩) { running with occ := true }) (!·.occ) ∧
    Completes (exec (.occUpd ⟨single 26, 1⟩) { running with occ := true }) (·.occ) := by decide

/-- MOT-1. -/
theorem test_motFirst_records :
    Completes (exec (.motFirst ⟨single 99, 1⟩) { running with occ := true })
      fun t => t.prevvalid && !t.mot && t.prev == single 99 := by decide

/-- MOT-2 and MOT-4: entry is gated by `OCC`. -/
theorem test_motUpd_enters :
    Completes (exec (.motUpd ⟨single 21, 1⟩) { running with occ := true, prevvalid := true })
      (fun t => t.mot && t.prev == single 21) ∧
    Completes (exec (.motUpd ⟨single 21, 1⟩) { running with prevvalid := true }) (fun t => !t.mot && t.prev == single 21) := by
  decide

/-- MOT-13 and MOT-9: 25 over 2 clears; above enter without `OCC` nothing is cleared. -/
theorem test_motUpd_exits :
    Completes (exec (.motUpd ⟨single 25, 2⟩) { running with mot := true, prevvalid := true }) (!·.mot) ∧
    Completes (exec (.motUpd ⟨single 60, 1⟩) { running with mot := true, prevvalid := true }) (·.mot) := by decide

theorem test_frameOut_reports :
    Completes (exec (.frameOut ⟨single 5, 2⟩) { running with occ := true, pktcnt := 4 })
      fun t => t.outbox == [.frame (single 5) 2 true false 4] := by decide

/-- Two slots hold the count: one `TRIG` (as CT-16). -/
theorem test_trigChk_fires_once :
    Completes (exec .trigChk { running with pktcnt := 5, cfg := { CfgRegs.reset with trig := Vector.replicate 8 ⟨true, 5⟩ } })
      fun t => t.outbox == [.trig 5] := by decide

/-- A slot that is not valid (as CT-17). -/
theorem test_trigChk_needs_valid :
    Completes (exec .trigChk { running with pktcnt := 5, cfg := { CfgRegs.reset with trig := Vector.replicate 8 ⟨false, 5⟩ } })
      fun t => t.outbox == [] := by decide

/-- 45_controller.md R127: the second of two iterations ends the run. -/
theorem test_iterEnd_stops :
    Completes (exec .iterEnd { running with phase := .csum, scancnt := 3, confok := true, itercnt := 1, cfg := { CfgRegs.reset with iterLimit := 2 } })
      fun t => t.itercnt == 2 && seen t == (.stopped, .hunt, 0, 0, false, [.tx 0xA0]) := by decide

/-- CT-19. -/
theorem test_iterEnd_without_limit :
    Completes (exec .iterEnd { running with phase := .csum, scancnt := 3 })
      fun t => t.itercnt == 0 && seen t == (.run, .hunt, 0, 0, false, []) := by decide

/-- CT-15: the trigger fires although the window is not complete. -/
theorem test_pipeRun_inside_the_window :
    Completes (exec .pipeRun { beforeChecksum with pktcnt := 1, cfg := { CfgRegs.reset with n := 2, trig := Vector.replicate 8 ⟨true, 1⟩ } })
      fun t => t.samples == 1 && t.sum.cell 0 0 == 72 && t.outbox == [.trig 1] := by decide

/-! ### Single steps: the controller, the link and reset (sections 3.7 to 3.9) -/

/-- CT-1. -/
theorem test_cmdStart_runs :
    Completes (step { idle with inbox := [.start] }) fun t => seen t == (.run, .hunt, 0, 0, false, [.tx 0xA1]) := by decide

/-- CT-9. -/
theorem test_cmdStart_refuses :
    Completes (step { idle with cfg := { CfgRegs.reset with n := 0 }, inbox := [.start] })
      fun t => seen t == (.idle, .hunt, 0, 0, false, [.err 4 0]) := by decide

/-- CT-4. -/
theorem test_cmdStop_stops :
    Completes (step { running with phase := .array, fidx := 45, csumacc := 9, inbox := [.stop] })
      fun t => seen t == (.stopped, .array, 45, 0, false, [.tx 0xA0]) && t.csumacc == 9 := by decide

/-- CT-6. -/
theorem test_cmdStop_is_sent_once :
    Completes (step { running with runstate := .stopped, inbox := [.stop] }) fun t => t.outbox == [] := by decide

/-- CT-7 and its like for the other 16-bit registers. -/
theorem test_cfgWr_half_registers :
    Completes (step { idle with inbox := [.cfgWr (.n 4)] }) (·.cfg == { CfgRegs.reset with n := 4 }) ∧
    Completes (step { idle with inbox := [.cfgWr (.occEnter 4)] }) (·.cfg == { CfgRegs.reset with occEnter := 4 }) ∧
    Completes (step { idle with inbox := [.cfgWr (.occExit 4)] }) (·.cfg == { CfgRegs.reset with occExit := 4 }) ∧
    Completes (step { idle with inbox := [.cfgWr (.motEnter 4)] }) (·.cfg == { CfgRegs.reset with motEnter := 4 }) ∧
    Completes (step { idle with inbox := [.cfgWr (.motExit 4)] }) (·.cfg == { CfgRegs.reset with motExit := 4 }) := by decide

theorem test_cfgWr_wide_registers :
    Completes (step { idle with inbox := [.cfgWr (.iterLimit 0xFFFFFFFF)] }) (·.cfg.iterLimit == 0xFFFFFFFF) ∧
    Completes (step { idle with inbox := [.cfgWr (.trig 7 true 3)] })
      (fun t => t.cfg.trig[7] == ⟨true, 3⟩ && t.cfg.trig[6] == ⟨false, 0⟩) := by decide

/-- CT-8. -/
theorem test_cfgWr_is_ignored_in_run :
    Completes (step { running with inbox := [.cfgWr (.n 4)] }) (·.cfg == CfgRegs.reset) := by decide

/-- CT-12. -/
theorem test_rxDrop_drops :
    Completes (step { idle with inbox := [.rx 0x2A] }) fun t => seen t == (.idle, .hunt, 0, 0, false, []) && t.inbox == [] := by
  decide

/-- EX-1. -/
theorem test_linkFail_with_tx :
    Completes (step { running with phase := .therm, fidx := 1, inbox := [.linkFail true] })
      fun t => seen t == (.halted, .therm, 1, 0, false, [.err 3 1, .tx 0xA0]) := by decide

/-- EX-2. -/
theorem test_linkFail_without_tx :
    Completes (step { running with inbox := [.linkFail false] })
      fun t => seen t == (.halted, .hunt, 0, 0, false, [.err 3 0]) := by decide

/-- RS-1. -/
theorem test_reset_restores :
    Completes (step { beforeChecksum with pktcnt := 7, cfg := { CfgRegs.reset with n := 4 }, samples := 3, occ := true, inbox := [.reset] })
      fun t => seen t == (.idle, .hunt, 0, 0, false, []) && t.pktcnt == 0 && t.cfg == CfgRegs.reset && t.samples == 0 &&
        !t.occ && t.thermbuf == #v[0, 0] && t.params == sample := by decide

/-- The packet's 134 bytes wait behind what waits (log 5). -/
theorem test_packet_arrives :
    Completes (exec (.packet 250 (Vector.replicate 64 72)) { running with inbox := [.stop] })
      fun t => t.inbox.length == 135 && t.inbox.take 6 == [.stop, .rx 0x2A, .rx 0x2A, .rx 0x2A, .rx 0xFA, .rx 0x00] &&
        t.inbox.getLast? == some (.rx 0xFA) := by decide +kernel

theorem test_control_bytes_go_out :
    Completes (exec .ctlStart running) (·.outbox == [.tx 0xA1]) ∧ Completes (exec .ctlStop running) (·.outbox == [.tx 0xA0]) := by
  decide

/-! ### Shared operations -/

/-- CS-2, CS-6 of section 3.2. -/
theorem test_checksum_values :
    checksum (List.replicate 130 0xFF) = 0x7E ∧
    checksum (encodeData 0xFF9C (Vector.ofFn fun k : Fin 64 => BitVec.ofNat 16 k.val)) = 0x7B := by decide +kernel

/-- OCC-7, OCC-8: `QOCC` of the two grids. -/
theorem test_qocc_values :
    qocc ((((Grid.all 0).set 0 15).set 1 15).set 62 (-15) |>.set 63 (-15)) = 57600 ∧
    qocc (((Grid.all 0).set 0 (-20)).set 27 (-15) |>.set 63 (-5)) = 40000 := by decide

/-- 60_exceptions.md R152: a `STOP` that coincides with a byte wins. -/
theorem test_serialise_priority :
    serialise [.rx 1, .stop, .rx 2, .reset, .cfgWr (.n 4), .linkFail true, .start] =
      [.reset, .linkFail true, .stop, .start, .cfgWr (.n 4), .rx 1, .rx 2] := by decide

/-- 10_state.md R26: `valid` is bit 32. -/
theorem test_trigger_slot_bits : trigBits ⟨true, 3⟩ = 0x100000003 := by decide

/-! ### Witnesses: for every statement that has hypotheses, a state and operands that meet them

Each theorem states the hypotheses of the obligation it is named after. -/

theorem witness_StepRunsTheSelectedOperation :
    ({ running with inbox := [.rx 0x2A] } : State).inbox = .rx 0x2A :: [] ∧
      select running.params running.seq (.rx 0x2A) = .ok (.syncFirst 0x2A) ∧ idle.inbox = [] := by decide

/-- The first value too wide or of another shape in each clause; a grid of 64 different cells; a packet to complement; a
packet that is refused. -/
theorem witness_TraceItemsWriteEventsDown :
    (∃ (f : Frame) (vals : Vector Half 64), (∀ r c : Fin 8, vals[8 * r.val + 7 - c.val] = f.cell r c) ∧ f.cell 7 0 = 63) ∧
    (∃ bytes : List Byte, expandItem sample (.packet (.pktC 250 72)) = .ok (bytes.map .rx)) ∧
    (7 < 8 ∧ 7 ≤ 7 ∧ 1 < 2 ∧ 2 ^ 32 ≤ 4294967296) ∧
    ((if RegName.cfgN = .cfgIterLimit then 2 ^ 32 else 2 ^ 16) ≤ 65536 ∧
      (if RegName.cfgIterLimit = .cfgIterLimit then 2 ^ 32 else 2 ^ 16) ≤ 4294967296) ∧
    ((∃ b ∈ [0, 256], 256 ≤ b) ∧ 256 ≤ 256) ∧
    (((-32769 : Int) < -32768 ∨ 32767 < (-32769 : Int)) ∧ ((32768 : Int) < -32768 ∨ 32767 < (32768 : Int)) ∧
      (32768 : Int) ∈ [0, 32768] ∧ (List.replicate 8 (List.replicate 8 (32768 : Int))).length = 8 ∧
      (∀ row ∈ List.replicate 8 (List.replicate 8 (32768 : Int)), row.length = 8) ∧
      (32768 : Int) ∈ (List.replicate 8 (List.replicate 8 (32768 : Int))).flatten) ∧
    ((List.replicate 63 (0 : Half)).length ≠ 64 ∧ (List.replicate 65 (0 : Half)).length ≠ 64) ∧
    ((List.replicate 7 (List.replicate 8 (0 : Int))).length ≠ 8 ∧
      ∃ row ∈ [List.replicate 7 (0 : Int)], row.length ≠ 8) ∧
    expandItem sample (.packet (.pktC 250 32768)) = .error .valueTooWide := by
  refine ⟨⟨Grid.build fun r c => BitVec.ofNat 16 (8 * r.val + 7 - c.val), Vector.ofFn fun k => BitVec.ofNat 16 k.val, ?_⟩,
    ⟨encodePacket sample 250 (Vector.replicate 64 72), rfl⟩, by decide, by decide, by decide, by decide, by decide,
    by decide, rfl⟩
  decide +kernel

theorem witness_SyncSkipCountsTheByte :
    ∀ k ∈ [0, 132], ∃ s : State, s.runstate = .run ∧ s.phase = .hunt ∧ s.fidx = 0 ∧ s.scancnt = k ∧ s.scancnt.toNat ≤ 132 ∧
      (0x00 : Byte) ≠ s.params.marker :=
  fun k hk => ⟨{ running with scancnt := k }, rfl, rfl, rfl, rfl, by revert k; decide, show (0x00 : Byte) ≠ sample.marker by decide⟩

theorem witness_SyncFirstEntersConfirm :
    ∀ k ∈ [0, 132], ∃ s : State, s.runstate = .run ∧ s.phase = .hunt ∧ s.fidx = 0 ∧ s.scancnt = k ∧ s.scancnt.toNat ≤ 132 ∧
      (0x2A : Byte) = s.params.marker :=
  fun k hk => ⟨{ running with scancnt := k }, rfl, rfl, rfl, rfl, by revert k; decide, rfl⟩

theorem witness_SyncConf1RecordsTheComparison :
    ∀ k ∈ [1, 132], ∃ s : State, s.runstate = .run ∧ s.phase = .confirm ∧ s.fidx = 0 ∧ s.scancnt = k ∧
      1 ≤ s.scancnt.toNat ∧ s.scancnt.toNat ≤ 132 :=
  fun k hk => ⟨{ running with phase := .confirm, scancnt := k }, rfl, rfl, rfl, rfl, by revert k; decide, by revert k; decide⟩

theorem witness_SyncConf2GivesTheVerdict :
    ∀ k ∈ [2, 133], ∀ ok : Bool, ∃ s : State, s.runstate = .run ∧ s.phase = .confirm ∧ s.fidx = 1 ∧ s.scancnt = k ∧
      s.confok = ok ∧ 2 ≤ s.scancnt.toNat ∧ s.scancnt.toNat ≤ 133 :=
  fun k hk ok => ⟨{ running with phase := .confirm, fidx := 1, scancnt := k, confok := ok }, rfl, rfl, rfl, rfl, rfl,
    by revert k; revert ok; decide, by revert k; revert ok; decide⟩

theorem witness_SyncWindowFailsTheAttempt :
    ∀ ph ∈ [Phase.hunt, Phase.confirm],
      ∃ s : State, s.runstate = .run ∧ s.scancnt = 133 ∧ s.fidx = 0 ∧ s.phase = ph :=
  fun ph _ => ⟨{ running with scancnt := 133, phase := ph }, rfl, rfl, rfl, rfl⟩

theorem witness_RdThermStoresTheByte :
    ∀ k ∈ [(0 : Byte), 1], ∃ s : State, s.runstate = .run ∧ s.phase = .therm ∧ s.fidx = k :=
  fun k _ => ⟨{ running with phase := .therm, fidx := k }, rfl, rfl, rfl⟩

theorem witness_RdArrayStoresTheByte :
    ∀ k ∈ [(0 : Byte), 126, 127], ∃ s : State, s.runstate = .run ∧ s.phase = .array ∧ s.fidx = k ∧ s.fidx.toNat < 128 :=
  fun k hk => ⟨{ running with phase := .array, fidx := k }, rfl, rfl, rfl, by revert k; decide⟩

theorem witness_RdCsumComparesExactly :
    beforeChecksum.runstate = .run ∧ beforeChecksum.phase = .csum ∧ beforeChecksum.fidx = 0 ∧
      (0xFA : Byte) = beforeChecksum.csumacc ∧ (0x05 : Byte) ≠ beforeChecksum.csumacc := by decide

theorem witness_PktAcceptCountsAndRunsThePipeline :
    beforeChecksum.pktcnt ≠ 0xFFFFFFFF#32 ∧ PipelineReady beforeChecksum ∧
      ({ beforeChecksum with pktcnt := 0xFFFFFFFF } : State).pktcnt = 0xFFFFFFFF#32 :=
  ⟨by decide, ⟨by decide, by decide, by decide⟩, rfl⟩

/-- A state in a window of `n` frames of which `k` are in; `MOT` and `PREVVALID` as given. -/
def inWindow (n k : Half) (seenOne : Bool) : State :=
  { beforeChecksum with cfg := { CfgRegs.reset with n := n }, samples := k, prevvalid := seenOne, mot := seenOne }

theorem witness_PipeRunInsideTheWindow :
    (PipelineReady (inWindow 2 0 false) ∧ (inWindow 2 0 false).samples.toNat + 1 < (inWindow 2 0 false).cfg.n.toNat) ∧
    (PipelineReady (inWindow 65535 65533 true) ∧
      (inWindow 65535 65533 true).samples.toNat + 1 < (inWindow 65535 65533 true).cfg.n.toNat) :=
  ⟨⟨⟨by decide, by decide, by decide⟩, by decide⟩, ⟨⟨by decide, by decide, by decide⟩, by decide⟩⟩

theorem witness_PipeRunCompletesTheWindow :
    (PipelineReady (inWindow 1 0 false) ∧ (inWindow 1 0 false).samples.toNat + 1 = (inWindow 1 0 false).cfg.n.toNat) ∧
    (PipelineReady (inWindow 65535 65534 true) ∧
      (inWindow 65535 65534 true).samples.toNat + 1 = (inWindow 65535 65534 true).cfg.n.toNat) :=
  ⟨⟨⟨by decide, by decide, by decide⟩, by decide⟩, ⟨⟨by decide, by decide, by decide⟩, by decide⟩⟩

theorem witness_DecFrameUnpacksAndMirrors :
    7 = 8 * (0 : Fin 8).val + (7 - (0 : Fin 8).val) ∧ 56 = 8 * (7 : Fin 8).val + (7 - (7 : Fin 8).val) := by decide

theorem witness_AccAddAddsEveryCell :
    (inWindow 2 0 false).samples + 1 ≠ (inWindow 2 0 false).cfg.n ∧
      (inWindow 2 1 false).samples + 1 = (inWindow 2 1 false).cfg.n ∧
      (BitVec.ofInt 32 (-(65534 * 32768))).toInt.natAbs = 65534 * 32768 := by decide

theorem witness_OccUpdAppliesBothThresholds :
    ∃ T Q : Int, T = ∑ r : Fin 8, ∑ c : Fin 8, ((single 31).cell r c).toInt ∧
      Q = 64 * (∑ r : Fin 8, ∑ c : Fin 8, ((single 31).cell r c).toInt ^ 2) - T ^ 2 :=
  ⟨_, _, rfl, rfl⟩

/-- The first averaged frame of a run. -/
theorem witness_MotFirstRecordsTheFrame :
    (running.mot = true → running.prevvalid = true) ∧ running.prevvalid = false := by decide

theorem witness_MotUpdGatesEntryOnly :
    ∃ Q : Int, Q = ∑ r : Fin 8, ∑ c : Fin 8, (((single 21).cell r c).toInt - (running.prev.cell r c).toInt) ^ 2 :=
  ⟨_, rfl⟩

/-- A run that has accepted 5 packets, with this trigger in slot 7. -/
def withTrigger (valid : Bool) (count : Word) : State :=
  { running with pktcnt := 5, cfg := { CfgRegs.reset with trig := CfgRegs.reset.trig.set 7 ⟨valid, count⟩ } }

theorem witness_TrigChkFiresOncePerMatch :
    (∃ i : Fin 8, (withTrigger true 5).cfg.trig[i.val].valid = true ∧
      (withTrigger true 5).cfg.trig[i.val].count = (withTrigger true 5).pktcnt) ∧
    (∀ i : Fin 8, (withTrigger true 6).cfg.trig[i.val].valid = true →
      (withTrigger true 6).cfg.trig[i.val].count ≠ (withTrigger true 6).pktcnt) ∧
    (∀ i : Fin 8, (withTrigger false 5).cfg.trig[i.val].valid = true →
      (withTrigger false 5).cfg.trig[i.val].count ≠ (withTrigger false 5).pktcnt) := by decide

/-- Equal thresholds are legal (CT-11); each of the three conditions can fail alone. -/
theorem witness_CmdStartBeginsALegalRun :
    idle.runstate = .idle ∧ running.runstate ≠ .idle ∧
    (∃ c : CfgRegs, 1 ≤ c.n.toNat ∧ c.occExit.toNat = c.occEnter.toNat ∧ c.motExit.toNat = c.motEnter.toNat) ∧
    (∃ c : CfgRegs, c.n = 0) ∧ (∃ c : CfgRegs, c.occEnter.toNat < c.occExit.toNat) ∧
    (∃ c : CfgRegs, c.motEnter.toNat < c.motExit.toNat) :=
  ⟨rfl, by decide, ⟨{ CfgRegs.reset with occExit := 30, motExit := 20 }, by decide, by decide, by decide⟩,
    ⟨{ CfgRegs.reset with n := 0 }, rfl⟩, ⟨{ CfgRegs.reset with occEnter := 24 }, by decide⟩,
    ⟨{ CfgRegs.reset with motEnter := 12 }, by decide⟩⟩

theorem witness_CmdStopEndsTheRun : running.runstate = .run ∧ idle.runstate ≠ .run := by decide

theorem witness_CfgWrStoresInIdleOnly : idle.runstate = .idle ∧ running.runstate ≠ .idle := by decide

theorem witness_RxDropLosesTheByte :
    ∀ r ∈ [RunState.idle, RunState.stopped, RunState.halted], ({ running with runstate := r } : State).runstate ≠ .run := by
  decide

theorem witness_LinkFailHaltsTheRun : running.runstate = .run ∧ idle.runstate ≠ .run := by decide

theorem witness_UnreachableStatesAreRefused :
    (∀ i, select sample ⟨.run, .hunt, 0, 134⟩ (.rx 0) ≠ .ok i) ∧
    2 ≤ ({ running with fidx := 2 } : State).fidx.toNat ∧ 128 ≤ ({ running with fidx := 128 } : State).fidx.toNat ∧
    cfgLegal { CfgRegs.reset with n := 0 } = false ∧
    (cfgLegal (inWindow 1 1 false).cfg = true ∧ (inWindow 1 1 false).cfg.n.toNat ≤ (inWindow 1 1 false).samples.toNat) ∧
    (cfgLegal (inWindow 2 1 false).cfg = true ∧ (inWindow 2 1 false).samples.toNat < (inWindow 2 1 false).cfg.n.toNat ∧
      ({ inWindow 2 1 false with mot := true } : State).mot = true ∧ (inWindow 2 1 false).prevvalid = false) := by
  refine ⟨?_, by decide, by decide, by decide, by decide, by decide⟩
  intro i h
  simp [select, selectRx] at h

theorem witness_DecodeOfEncodeIsTheInstruction :
    sample.legal ∧
    (∃ c, (Instr.packet 250 (Vector.replicate 64 72)).wellFormed sample = true ∧
      encode sample (.packet 250 (Vector.replicate 64 72)) = some c) ∧
    (∃ c, Instr.ctlStop.wellFormed sample = true ∧ encode sample .ctlStop = some c) ∧
    (∃ c, (Instr.syncFirst 0x2A).wellFormed sample = true ∧ encode sample (.syncFirst 0x2A) = some c ∧
      (Instr.syncFirst 0x2A).selectedAt sample ⟨.run, .hunt, 0, 132⟩ = true) ∧
    (∃ c, (Instr.cfgWrTrig 7 true 3).wellFormed sample = true ∧ encode sample (.cfgWrTrig 7 true 3) = some c) :=
  ⟨by decide, ⟨_, rfl, rfl⟩, ⟨_, rfl, rfl⟩, ⟨_, rfl, rfl, rfl⟩, ⟨_, rfl, rfl⟩⟩

theorem witness_PacketDecoderAcceptsWellFormed : ∃ bytes i, decodePacket sample bytes = .ok i :=
  ⟨dec1Front ++ dec1Back, _, test_decode_packet_dec1⟩

/-- The first data byte and the checksum byte are the boundary offsets. -/
theorem witness_OneChangedByteIsDetected :
    (3 ≤ 3 ∧ 3 < 134 ∧ (encodePacket sample 250 (Vector.replicate 64 72))[3]? ≠ some 0xFB) ∧
    (3 ≤ 133 ∧ 133 < 134 ∧ (encodePacket sample 250 (Vector.replicate 64 72))[133]? ≠ some 0x05) := by decide +kernel

/-- The invariant holds in a run that waits for its first packet's checksum byte. -/
theorem inv_beforeChecksum (n : Half) (hn : 1 ≤ n.toNat) (es : List Event) :
    Inv { beforeChecksum with cfg := { CfgRegs.reset with n := n }, inbox := es } where
  paramsLegal := show sample.legal by decide
  idleIsReset := by intro h; cases h
  runIsLegal := by intro _; simp [cfgLegal, CfgRegs.reset, hn]
  samplesInWindow := by intro _; exact hn
  samplesCount := by intro _; exact (Nat.zero_mod _).symm
  sumBound := by intro r c; simp [beforeChecksum, running, idle, State.reset, Grid.cell]
  prevBound := by intro h; cases h
  seqRange := ⟨rfl, show 3 ≤ 134 by decide⟩
  iterBound := by intro h; exact absurd rfl h
  iterReached := by intro h; exact absurd rfl h
  iterUnlimited := by intro _; rfl
  motNeedsPrev := by intro h; cases h
  nothingYielded := rfl

theorem beforeChecksum_completes : ∃ t, step beforeChecksum = .next t ∧ (t.pktcnt != beforeChecksum.pktcnt) = true :=
  exists_next_of_completes (by decide)

theorem witness_EveryStepKeepsTheInvariant : ∃ t, Inv beforeChecksum ∧ step beforeChecksum = .next t := by
  obtain ⟨t, h, _⟩ := beforeChecksum_completes
  exact ⟨t, inv_beforeChecksum 1 (by decide) _, h⟩

theorem witness_StepIsDefinedForEveryEvent : ∃ s, Inv s ∧ s.inbox = [.rx 0xFA] :=
  ⟨beforeChecksum, inv_beforeChecksum 1 (by decide) _, rfl⟩

/-- The running checksum of a packet whose first byte has been read. -/
theorem witness_EveryStepKeepsTheChecksumLaw :
    ∃ s t, ChecksumLaw s ∧ step s = .next t ∧ (s.phase == .therm && t.phase == .array && t.csumacc == 0x1A) = true := by
  obtain ⟨t, h, e⟩ := exists_next_of_completes
    (o := step { running with phase := .therm, fidx := 1, scancnt := 3, thermbuf := #v[0xFA, 0x00], csumacc := 0xFA,
                              inbox := [.rx 0x20] })
    (p := fun t => t.phase == .array && t.csumacc == 0x1A) (by decide)
  exact ⟨_, t, fun _ => by decide, h, e⟩

/-- A step that emits `FRAME`, `TRIG` and `TX` (as P5's third iteration). -/
theorem witness_OutputsOfOneStepAreOrdered :
    ∃ s t, step s = .next t ∧ (t.outbox.map outputRank == [1, 2, 3]) = true := by
  obtain ⟨t, h, e⟩ := exists_next_of_completes
    (o := step { beforeChecksum with
      cfg := { CfgRegs.reset with iterLimit := 1, trig := Vector.replicate 8 ⟨true, 1⟩ } })
    (p := fun t => t.outbox.map outputRank == [1, 2, 3]) (by decide)
  exact ⟨_, t, h, e⟩

/-- One state for each of the seven transitions of R128 that change the run state, and the run state each leads to. -/
def transitions : List (State × RunState) :=
  [({ running with inbox := [.reset] }, .idle),
   ({ idle with inbox := [.start] }, .run),
   ({ running with inbox := [.stop] }, .stopped),
   ({ running with cfg := { CfgRegs.reset with iterLimit := 1 }, scancnt := 133, inbox := [.rx 0] }, .stopped),
   ({ running with inbox := [.linkFail true] }, .halted),
   ({ running with inbox := [.linkFail false] }, .halted),
   ({ beforeChecksum with pktcnt := 0xFFFFFFFF }, .halted)]

theorem witness_RunStateChangesOnlyAsListed :
    ∀ x ∈ transitions, ∃ e t l, x.1.inbox = e :: [] ∧ step x.1 = .next t ∧ t.outbox = x.1.outbox ++ l ∧
      t.runstate = x.2 ∧ t.runstate ≠ x.1.runstate := by
  intro x hx
  have key : ∀ x ∈ transitions, Completes (step x.1)
      (fun t => t.runstate == x.2 && t.runstate != x.1.runstate && x.1.outbox == [] && x.1.inbox.length == 1) := by decide
  obtain ⟨t, h, e⟩ := exists_next_of_completes (key x hx)
  simp only [Bool.and_eq_true, beq_iff_eq, bne_iff_ne] at e
  obtain ⟨⟨⟨h1, h2⟩, h3⟩, h4⟩ := e
  obtain ⟨ev, h5⟩ := List.length_eq_one_iff.mp h4
  exact ⟨ev, t, t.outbox, h5, h, by rw [h3, List.nil_append], h1, h2⟩

theorem witness_AnEndedRunStaysAsItIs :
    ∀ r ∈ [RunState.stopped, RunState.halted], ∃ s : State, (s.runstate = .stopped ∨ s.runstate = .halted) ∧
      s.runstate = r ∧ s.inbox = .start :: [] ∧ Event.start ≠ .reset := by
  intro r hr
  refine ⟨{ running with runstate := r, inbox := [.start] }, ?_, rfl, rfl, by decide⟩
  simpa using hr

theorem witness_PacketCountOnlyGrowsByOne : ∃ t, step beforeChecksum = .next t ∧ t.pktcnt ≠ beforeChecksum.pktcnt := by
  obtain ⟨t, h, e⟩ := beforeChecksum_completes
  exact ⟨t, h, by simpa using e⟩

theorem witness_ConfigurationIsFrozenDuringARun :
    ∃ s t, step s = .next t ∧ (s.runstate != .idle && s.inbox.head? == some (.cfgWr (.n 4)) && t.inbox == []) = true := by
  obtain ⟨t, h, e⟩ := exists_next_of_completes (o := step { running with inbox := [.cfgWr (.n 4)] })
    (p := fun t => t.inbox == []) (by decide)
  refine ⟨_, t, h, ?_⟩
  rw [Bool.and_eq_true]
  exact ⟨by decide, e⟩

theorem insideTheWindow_completes :
    ∃ t, step { beforeChecksum with cfg := { CfgRegs.reset with n := 2 } } = .next t ∧ (t.samples == 1) = true :=
  exists_next_of_completes (by decide)

/-- A packet that completes the window, and one that does not. -/
theorem witness_FrameExactlyEveryNPackets :
    ∀ n ∈ [(1 : Half), 2], ∃ s t l, Inv s ∧ s.cfg.n = n ∧ s.runstate = .run ∧ s.phase = .csum ∧
      s.inbox.head? = some (.rx s.csumacc) ∧ s.pktcnt ≠ 0xFFFFFFFF#32 ∧ step s = .next t ∧ t.outbox = s.outbox ++ l := by
  intro n hn
  simp only [List.mem_cons, List.not_mem_nil, or_false] at hn
  have hn1 : 1 ≤ n.toNat := by
    rcases hn with rfl | rfl <;> decide
  obtain ⟨t, h⟩ : ∃ t, step { beforeChecksum with cfg := { CfgRegs.reset with n := n } } = .next t := by
    rcases hn with rfl | rfl
    · have e : { beforeChecksum with cfg := { CfgRegs.reset with n := 1 } } = beforeChecksum := rfl
      rw [e]
      obtain ⟨t, h, _⟩ := beforeChecksum_completes
      exact ⟨t, h⟩
    · obtain ⟨t, h, _⟩ := insideTheWindow_completes
      exact ⟨t, h⟩
  exact ⟨{ beforeChecksum with cfg := { CfgRegs.reset with n := n } }, t, t.outbox,
    inv_beforeChecksum n hn1 _, rfl, rfl, rfl, rfl,
    show beforeChecksum.pktcnt ≠ 0xFFFFFFFF#32 by decide, h, (List.nil_append _).symm⟩

/-- Before the packet no frame is accepted; the step that accepts it completes the window and emits `FRAME`. -/
theorem witness_FrameExactlyEveryNPackets_history :
    ∃ s t l, Inv s ∧ FrameHistory [] s ∧ step s = .next t ∧ t.outbox = s.outbox ++ l ∧
      framesAfter s [] = [decodeFrame s.arrbuf] ∧ ∃ S n o m k, Output.frame S n o m k ∈ l := by
  obtain ⟨t, h, e⟩ := exists_next_of_completes (o := step beforeChecksum)
    (p := fun t => match t.outbox with
      | [.frame _ _ _ _ _] => true
      | _ => false) (by decide)
  refine ⟨beforeChecksum, t, t.outbox, inv_beforeChecksum 1 (by decide) _, ⟨rfl, by decide⟩, h,
    (List.nil_append _).symm, by decide, ?_⟩
  split at e
  · rename_i S n o m k hk
    exact ⟨S, n, o, m, k, by rw [hk]; exact List.mem_singleton.mpr rfl⟩
  · cases e

theorem witness_ThermInfluencesNothingElse : ∃ t, step beforeChecksum = .next t := by
  obtain ⟨t, h, _⟩ := beforeChecksum_completes
  exact ⟨t, h⟩

theorem witness_OccComparisonIsTheNorm :
    ∃ (a : Avg) (mean nu : ℝ), 1 ≤ a.n.toNat ∧ mean = (∑ r : Fin 8, ∑ c : Fin 8, (a.value r c : ℝ)) / 64 ∧
      nu = Real.sqrt (∑ r : Fin 8, ∑ c : Fin 8, ((a.value r c : ℝ) - mean) ^ 2) :=
  ⟨⟨single 61, 2⟩, _, _, by decide, rfl, rfl⟩

theorem witness_MotComparisonIsTheNorm :
    ∃ (a b : Avg) (nu : ℝ), 1 ≤ a.n.toNat ∧ b.n = a.n ∧
      nu = Real.sqrt (∑ r : Fin 8, ∑ c : Fin 8, ((a.value r c : ℝ) - (b.value r c : ℝ)) ^ 2) :=
  ⟨⟨single 41, 2⟩, ⟨single 0, 2⟩, _, by decide, rfl, rfl⟩

/-- The four changes; a band of one frame for `OCC`; and two frames each within the motion band of the one before it,
`OCC` set and then clear, the second of which is outside the band of the first one's reference. -/
theorem witness_HysteresisHasNoChatter :
    occNext CfgRegs.reset ⟨single 31, 1⟩ false = true ∧ occNext CfgRegs.reset ⟨single 25, 1⟩ true = false ∧
    motNext CfgRegs.reset ⟨single 21, 1⟩ (single 0) true false = true ∧
    motNext CfgRegs.reset ⟨single 12, 1⟩ (single 0) false true = false ∧
    (∀ b ∈ [(⟨single 26, 1⟩ : Avg)], occBound b.n 25 ≤ qocc b.S ∧ qocc b.S ≤ occBound b.n 30) ∧
    InMotionBand running.cfg running.prev
      ([(true, (⟨single 13, 1⟩ : Avg)), (false, ⟨single 33, 1⟩)].map Prod.snd) ∧
    qmot (single 33) running.prev > motBound 1 20 := by
  refine ⟨by decide +kernel, by decide +kernel, by decide +kernel, by decide +kernel, by decide +kernel, ?_,
    by decide +kernel⟩
  simp only [List.map, InMotionBand]
  decide +kernel

/-- The largest window and the most negative sums (ACC-6). -/
theorem witness_AccumulatorNeverWraps :
    ∃ (sum : SumGrid) (k : Nat), k + 1 = 65535 ∧ k + 1 ≤ 65535 ∧ ∀ r c, (sum.cell r c).toInt.natAbs ≤ k * 32768 := by
  refine ⟨Grid.all (BitVec.ofInt 32 (-(65534 * 32768))), 65534, rfl, by decide, fun r c => ?_⟩
  rw [Grid.cell_all]
  decide

/-- The boundary in each case: a first marker byte at position 132, and one at position 133 (R86: `p <= 132`). -/
theorem witness_SyncAttemptOutcome :
    (∃ (s : State) (pre : List Byte), s.runstate = .run ∧ s.phase = .hunt ∧ s.fidx = 0 ∧ s.scancnt = 0 ∧
      pre.length = 131 ∧ pre.length ≤ 131 ∧ s.params.marker ∉ pre ∧
      s.inbox = rxEvents (pre ++ [s.params.marker, s.params.marker, s.params.marker]) ++ []) ∧
    (∃ (s : State) (pre : List Byte), s.runstate = .run ∧ s.phase = .hunt ∧ s.fidx = 0 ∧ s.scancnt = 0 ∧
      pre.length = 131 ∧ pre.length ≤ 131 ∧ s.params.marker ∉ pre ∧
      ¬ ((0x2A : Byte) = s.params.marker ∧ (0x00 : Byte) = s.params.marker) ∧
      s.inbox = rxEvents (pre ++ [s.params.marker, 0x2A, 0x00]) ++ []) ∧
    (∃ (s : State) (bytes : List Byte), s.runstate = .run ∧ s.phase = .hunt ∧ s.fidx = 0 ∧ s.scancnt = 0 ∧
      bytes.length = 134 ∧ s.params.marker ∉ bytes.take 132 ∧ s.inbox = rxEvents bytes ++ []) := by
  refine ⟨⟨{ running with inbox := rxEvents (List.replicate 131 0 ++ [0x2A, 0x2A, 0x2A]) ++ [] }, List.replicate 131 0,
      rfl, rfl, rfl, rfl, by simp, by simp, ?_, rfl⟩,
    ⟨{ running with inbox := rxEvents (List.replicate 131 0 ++ [0x2A, 0x2A, 0x00]) ++ [] }, List.replicate 131 0,
      rfl, rfl, rfl, rfl, by simp, by simp, ?_, by decide, rfl⟩,
    ⟨{ running with inbox := rxEvents (List.replicate 132 0 ++ [0x2A, 0x2A]) ++ [] },
      List.replicate 132 0 ++ [0x2A, 0x2A], rfl, rfl, rfl, rfl, by simp, ?_, rfl⟩⟩
  · intro h
    exact absurd (List.eq_of_mem_replicate h) (by decide)
  · intro h
    exact absurd (List.eq_of_mem_replicate h) (by decide)
  · rw [List.take_left' (by simp)]
    intro h
    exact absurd (List.eq_of_mem_replicate h) (by decide)

theorem witness_WellFormedPacketIsAccepted :
    ∃ s : State, s.runstate = .run ∧ s.phase = .hunt ∧ s.fidx = 0 ∧ s.scancnt = 0 ∧ s.pktcnt ≠ 0xFFFFFFFF#32 ∧
      PipelineReady s ∧ s.inbox = rxEvents (encodePacket s.params 250 (Vector.replicate 64 72)) ++ [] :=
  ⟨{ running with inbox := rxEvents (encodePacket sample 250 (Vector.replicate 64 72)) ++ [] },
    rfl, rfl, rfl, rfl, by decide, ⟨by decide, by decide, by decide⟩, rfl⟩

/-- P2's bad packet: the checksum complemented. -/
theorem witness_WrongChecksumIsRejected :
    ∃ s : State, s.runstate = .run ∧ s.phase = .hunt ∧ s.fidx = 0 ∧ s.scancnt = 0 ∧
      (0x05 : Byte) ≠ checksum (encodeData 250 (Vector.replicate 64 72)) ∧
      s.inbox = rxEvents ((encodePacket s.params 250 (Vector.replicate 64 72)).set 133 0x05) ++ [] :=
  ⟨{ running with inbox := rxEvents ((encodePacket sample 250 (Vector.replicate 64 72)).set 133 0x05) ++ [] },
    rfl, rfl, rfl, rfl, by decide +kernel, rfl⟩

/-- `CFGWR` in `IDLE`, `CFGWR` in a run, `RESET`, a byte. -/
theorem witness_HostReadsTheStatus :
    (∃ t, step { idle with inbox := [.cfgWr (.n 4)] } = .next t ∧ (t.hostView.cfg.n == 4) = true) ∧
    (∃ t, step { running with inbox := [.reset] } = .next t ∧ (t.hostView.runstate == .idle) = true) ∧
    (∃ t, step beforeChecksum = .next t ∧ (t.hostView.therm == 250) = true) ∧
    ({ running with inbox := [.cfgWr (.n 4)] } : State).runstate ≠ .idle ∧
    ({ running with inbox := [.cfgWr (.n 4)] } : State).inbox = .cfgWr (.n 4) :: [] :=
  ⟨exists_next_of_completes (by decide), exists_next_of_completes (by decide), exists_next_of_completes (by decide),
    by decide, rfl⟩

end Sys2Proof.Tests
end

section
/-! SUPPORT. What a step can do, said once: the pipeline in closed form (45_controller.md R120), and one case for each
outcome of the operations that an event selects (30_encoding.md R65, R69). -/

namespace Sys2Proof.Machine

/-! ### The pipeline in closed form -/

/-- The state after a packet that does not complete the window was added (R106). -/
def windowGrown (s : State) : State :=
  { s with sum := addFrame s.sum (decodeFrame s.arrbuf), samples := s.samples + 1, yielded := .nothing }

/-- The averaged frame that a packet completing the window yields (R106, R107). -/
def completedAvg (s : State) : Avg := { S := addFrame s.sum (decodeFrame s.arrbuf), n := s.cfg.n }

/-- `OCC` after a packet that completes the window (R112). -/
def occAfter (s : State) : Bool := occNext s.cfg (completedAvg s) s.occ

/-- `MOT` after a packet that completes the window (R114, R115): the new `OCC` gates its entry. -/
def motAfter (s : State) : Bool :=
  if s.prevvalid then motNext s.cfg (completedAvg s) s.prev (occAfter s) s.mot else s.mot

/-- The state after a packet that completes the window was added and the detectors ran (R106, R107, R112 to R115). -/
def windowCompleted (s : State) : State :=
  { s with sum := Grid.all 0, samples := 0, occ := occAfter s, mot := motAfter s, prev := (completedAvg s).S,
           prevvalid := true, yielded := .nothing }

/-- The `FRAME` of a packet that completes the window (R125). -/
def completedFrame (s : State) : Output :=
  .frame (completedAvg s).S s.cfg.n (occAfter s) (motAfter s) s.pktcnt

/-- Inside the window no detector runs (R116). -/
theorem detectIfYielded_of_incomplete (s : State) (h : s.samples + 1 ≠ s.cfg.n) :
    detectIfYielded (decodeAndAdd s) = windowGrown s := by
  rw [decodeAndAdd_eq_accAdd, accAdd_incomplete]
  · rfl
  · exact h

/-- At the window's end the detectors run, then `FRAME.OUT` (R116, R120). -/
theorem detectIfYielded_of_complete (s : State) (h : s.samples + 1 = s.cfg.n) :
    detectIfYielded (decodeAndAdd s) = (windowCompleted s).emit (completedFrame s) := by
  rw [decodeAndAdd_eq_accAdd, accAdd_complete]
  · cases hp : s.prevvalid <;>
      simp [detectIfYielded, detect, occUpd, motUpd, motFirst, frameOut, State.emit, State.yield, windowCompleted,
        completedFrame, occAfter, motAfter, completedAvg, hp]
  · exact h

/-- `PIPE.RUN` inside the window (R120): the frame is added, then `TRIG.CHK` and `ITER.END`. -/
theorem pipeline_incomplete (s : State) (h : s.samples + 1 ≠ s.cfg.n) :
    pipeline s = afterIteration (windowGrown s) (triggerReport s.cfg s.pktcnt) := by
  rw [pipeline, detectIfYielded_of_incomplete s h, trigChk_eq_report, ← iterEnd_after]
  simp only [windowGrown]

/-- `PIPE.RUN` at the window's end (R120): the detectors and `FRAME.OUT` run, then `TRIG.CHK` and `ITER.END`. -/
theorem pipeline_complete (s : State) (h : s.samples + 1 = s.cfg.n) :
    pipeline s = afterIteration (windowCompleted s) (completedFrame s :: triggerReport s.cfg s.pktcnt) := by
  rw [pipeline, detectIfYielded_of_complete s h, trigChk_eq_report, ← iterEnd_after]
  simp [State.emit, windowCompleted]

@[simp] theorem pipeline_pktcnt (s : State) : (pipeline s).pktcnt = s.pktcnt := by
  by_cases h : s.samples + 1 = s.cfg.n
  · simp [pipeline_complete s h, windowCompleted]
  · simp [pipeline_incomplete s h, windowGrown]

@[simp] theorem pipeline_cfg (s : State) : (pipeline s).cfg = s.cfg := by
  by_cases h : s.samples + 1 = s.cfg.n
  · simp [pipeline_complete s h, windowCompleted]
  · simp [pipeline_incomplete s h, windowGrown]

@[simp] theorem pipeline_params (s : State) : (pipeline s).params = s.params := by
  by_cases h : s.samples + 1 = s.cfg.n
  · simp [pipeline_complete s h, windowCompleted]
  · simp [pipeline_incomplete s h, windowGrown]

/-! ### What the block does on an event -/

/-- The events that have no function in the state (30_encoding.md R69): those that act in `IDLE` only, or in `RUN` only. -/
def Ignores (s : State) : Event → Prop
  | .reset => False
  | .cfgWr _ | .start => s.runstate ≠ .idle
  | .stop | .linkFail _ | .rx _ => s.runstate ≠ .run

/-- `Reaction s e t`: on the event `e`, already taken from the inbox, the block goes from `s` to `t`. One constructor for
each outcome of the operations that R65 selects, with the conditions under which it happens. -/
inductive Reaction (s : State) : Event → State → Prop
  /-- R69: no function here. -/
  | ignored {e : Event} (h : Ignores s e) : Reaction s e s
  /-- R160. -/
  | reset : Reaction s .reset (resetState s)
  /-- R123. -/
  | configured (w : CfgWrite) (hidle : s.runstate = .idle) : Reaction s (.cfgWr w) { s with cfg := writeCfg s.cfg w }
  /-- R121, R148: the configuration is illegal. -/
  | startRefused (hidle : s.runstate = .idle) (hcfg : cfgLegal s.cfg = false) :
      Reaction s .start { s with outbox := s.outbox ++ [.err 4 0] }
  /-- R121. -/
  | started (hidle : s.runstate = .idle) (hcfg : cfgLegal s.cfg = true) :
      Reaction s .start { s with runstate := .run, outbox := s.outbox ++ [.tx s.params.startCmd] }
  /-- R122. -/
  | stopped (hrun : s.runstate = .run) :
      Reaction s .stop { s with runstate := .stopped, outbox := s.outbox ++ [.tx s.params.stopCmd] }
  /-- R146. -/
  | linkFailed (x : Bool) (hrun : s.runstate = .run) :
      Reaction s (.linkFail x)
        { s with
          runstate := .halted
          outbox := s.outbox ++ (.err 3 (if x then 1 else 0) :: if x then [.tx s.params.stopCmd] else []) }
  /-- `SYNC.SKIP` (R81). -/
  | skipped (b : Byte) (hrun : s.runstate = .run) (hphase : s.phase = .hunt) (hfidx : s.fidx = 0)
      (hscan : s.scancnt.toNat ≤ 132) (hb : b ≠ s.params.marker) : Reaction s (.rx b) (countScan s)
  /-- `SYNC.FIRST` (R82). -/
  | firstSeen (b : Byte) (hrun : s.runstate = .run) (hphase : s.phase = .hunt) (hfidx : s.fidx = 0)
      (hscan : s.scancnt.toNat ≤ 132) (hb : b = s.params.marker) :
      Reaction s (.rx b) { countScan s with phase := .confirm, fidx := 0 }
  /-- `SYNC.CONF1` (R83). -/
  | compared (b : Byte) (hrun : s.runstate = .run) (hphase : s.phase = .confirm) (hfidx : s.fidx = 0)
      (hlow : 1 ≤ s.scancnt.toNat) (hhigh : s.scancnt.toNat ≤ 132) :
      Reaction s (.rx b) { countScan s with confok := b == s.params.marker, fidx := 1 }
  /-- `SYNC.WINDOW` (R85), both rows. -/
  | windowExhausted (b : Byte) (hrun : s.runstate = .run) (hphase : s.phase = .hunt ∨ s.phase = .confirm)
      (hfidx : s.fidx = 0) (hscan : s.scancnt.toNat = 133) : Reaction s (.rx b) (afterIteration s [.err 1 0])
  /-- `SYNC.CONF2` (R84), success. -/
  | synchronized (b : Byte) (hrun : s.runstate = .run) (hphase : s.phase = .confirm) (hfidx : s.fidx = 1)
      (hlow : 2 ≤ s.scancnt.toNat) (hhigh : s.scancnt.toNat ≤ 133) (hb : s.confok = true ∧ b = s.params.marker) :
      Reaction s (.rx b) { countScan s with phase := .therm, fidx := 0, csumacc := 0 }
  /-- `SYNC.CONF2` (R84), failure. -/
  | notConfirmed (b : Byte) (hrun : s.runstate = .run) (hphase : s.phase = .confirm) (hfidx : s.fidx = 1)
      (hlow : 2 ≤ s.scancnt.toNat) (hhigh : s.scancnt.toNat ≤ 133) (hb : ¬ (s.confok = true ∧ b = s.params.marker)) :
      Reaction s (.rx b) (afterIteration s [.err 1 1])
  /-- `RD.THERM` (R91). -/
  | thermRead (b : Byte) (hrun : s.runstate = .run) (hphase : s.phase = .therm) (hfidx : s.fidx.toNat < 2) :
      Reaction s (.rx b)
        { s with thermbuf := s.thermbuf.set s.fidx.toNat b, csumacc := addCsum s.csumacc b,
                 phase := if s.fidx = 0 then s.phase else .array, fidx := if s.fidx = 0 then 1 else 0 }
  /-- `RD.ARRAY` (R92). -/
  | arrayRead (b : Byte) (hrun : s.runstate = .run) (hphase : s.phase = .array) (hfidx : s.fidx.toNat < 128) :
      Reaction s (.rx b)
        { s with arrbuf := s.arrbuf.set s.fidx.toNat b, csumacc := addCsum s.csumacc b,
                 phase := if s.fidx.toNat < 127 then s.phase else .csum,
                 fidx := if s.fidx.toNat < 127 then s.fidx + 1 else 0 }
  /-- `RD.CSUM` then `PKT.REJECT` (R93, R94). -/
  | rejected (b : Byte) (hrun : s.runstate = .run) (hphase : s.phase = .csum) (hfidx : s.fidx = 0)
      (hb : b ≠ s.csumacc) : Reaction s (.rx b) (afterIteration s [.err 2 (infoOfBytes b s.csumacc)])
  /-- `RD.CSUM` then `PKT.ACCEPT` at the counter's maximum (R95, R147). -/
  | overflowed (hrun : s.runstate = .run) (hphase : s.phase = .csum) (hfidx : s.fidx = 0)
      (hcnt : s.pktcnt = 0xFFFFFFFF#32) :
      Reaction s (.rx s.csumacc)
        { s with runstate := .halted, outbox := s.outbox ++ [.err 5 0, .tx s.params.stopCmd] }
  /-- `RD.CSUM` then `PKT.ACCEPT` (R93, R95). -/
  | accepted (hrun : s.runstate = .run) (hphase : s.phase = .csum) (hfidx : s.fidx = 0)
      (hcnt : s.pktcnt ≠ 0xFFFFFFFF#32) (hready : PipelineReady (afterCount s)) :
      Reaction s (.rx s.csumacc) (pipeline (afterCount s))

/-- `SYNC.WINDOW` from either phase: the attempt's count is gone with the iteration (R85, R127). -/
theorem exhaustWindow_eq (s : State) : exhaustWindow s = afterIteration s [.err 1 0] :=
  raise_recoverable .syncWindow _ (.inl rfl)

/-- `SYNC.CONF2` fails (R84). -/
theorem raise_syncConfirm_countScan (s : State) :
    raise .syncConfirm (countScan s) = afterIteration s [.err 1 1] :=
  raise_recoverable .syncConfirm _ (.inl rfl)

/-- `ConfigInvalid` changes nothing but the outputs (R148). -/
theorem raise_configInvalid (s : State) :
    raise .configInvalid s = { s with outbox := s.outbox ++ [.err 4 0] } := rfl

/-- `LinkFailure` (R146): the device is told to stop only where the outbound direction works. -/
theorem raise_linkFailure (x : Bool) (s : State) :
    raise (.linkFailure x) s =
      { s with
        runstate := .halted
        outbox := s.outbox ++ (.err 3 (if x then 1 else 0) :: if x then [.tx s.params.stopCmd] else []) } := by
  rw [raise_fatal _ _ (.inl rfl)]
  cases x <;> rfl

/-- Every outcome of the operation that a byte selects is a reaction. -/
theorem reaction_of_selectRx {s t : State} {b : Byte} {i : Instr} (hsel : selectRx s.params s.seq b = .ok i)
    (hexec : exec i s = .next t) : Reaction s (.rx b) t := by
  cases hr : s.runstate with
  | idle | stopped | halted =>
    simp only [selectRx, State.seq, hr] at hsel
    cases hsel
    cases hexec
    exact .ignored (by simp [Ignores, hr])
  | run =>
    simp only [selectRx, State.seq, hr] at hsel
    cases hp : s.phase with
    | hunt =>
      simp only [hp] at hsel
      split_ifs at hsel with hf hs hb hs <;> cases hsel <;> cases hexec
      · exact .firstSeen b hr hp (not_not.1 hf) hs hb
      · exact .skipped b hr hp (not_not.1 hf) hs hb
      · rw [exhaustWindow_eq]
        exact .windowExhausted b hr (.inl hp) (not_not.1 hf) ‹_›
    | confirm =>
      simp only [hp] at hsel
      split_ifs at hsel with hf hs hs hf hs <;> cases hsel
      · cases hexec
        exact .compared b hr hp hf hs.1 hs.2
      · cases hexec
        rw [exhaustWindow_eq]
        exact .windowExhausted b hr (.inr hp) hf hs
      · simp only [exec, execSyncConf2] at hexec
        split at hexec <;> cases hexec
        · exact .synchronized b hr hp hf hs.1 hs.2 ‹_›
        · rw [raise_syncConfirm_countScan]
          exact .notConfirmed b hr hp hf hs.1 hs.2 ‹_›
    | therm =>
      simp only [hp] at hsel
      split at hsel <;> cases hsel
      obtain ⟨hi, rfl⟩ := execRdTherm_cases hexec
      exact .thermRead b hr hp hi
    | array =>
      simp only [hp] at hsel
      split at hsel <;> cases hsel
      obtain ⟨hi, rfl⟩ := execRdArray_cases hexec
      exact .arrayRead b hr hp hi
    | csum =>
      simp only [hp] at hsel
      split at hsel <;> cases hsel
      simp only [exec, execRdCsum] at hexec
      split at hexec
      · rename_i hf hb
        subst hb
        obtain ⟨hc, rfl⟩ | ⟨hc, hready, rfl⟩ := acceptPacket_cases hexec
        · rw [raise_fatal _ _ (.inr rfl)]
          exact .overflowed hr hp hf hc
        · exact .accepted hr hp hf hc hready
      · rename_i hf hb
        cases hexec
        rw [rejectPacket, raise_recoverable _ _ (.inr rfl)]
        exact .rejected b hr hp hf hb

/-- The seven rows of `CFG.WR` are one operation (R123). -/
theorem exec_selectCfgWr (w : CfgWrite) (s : State) : exec (selectCfgWr w) s = .next (cfgWr w s) := by
  cases w <;> rfl

/-- Every outcome of the operation that an event selects is a reaction. -/
theorem reaction_of_select {s t : State} {e : Event} {i : Instr} (hsel : select s.params s.seq e = .ok i)
    (hexec : exec i s = .next t) : Reaction s e t := by
  cases e with
  | rx b => exact reaction_of_selectRx hsel hexec
  | reset =>
    cases hsel
    cases hexec
    exact .reset
  | cfgWr w =>
    cases hsel
    rw [exec_selectCfgWr] at hexec
    cases hexec
    unfold cfgWr
    split
    · exact .configured w ‹_›
    · exact .ignored ‹_›
  | start =>
    cases hsel
    simp only [exec, execCmdStart] at hexec
    split at hexec
    · cases hexec
      exact .ignored ‹_›
    · rename_i hidle
      split at hexec <;> cases hexec
      · exact .startRefused (not_not.1 hidle) ‹_›
      · exact .started (not_not.1 hidle) (Bool.not_eq_false _ ▸ ‹_›)
  | stop =>
    cases hsel
    simp only [exec, execCmdStop] at hexec
    split at hexec <;> cases hexec
    · exact .ignored ‹_›
    · exact .stopped (not_not.1 ‹_›)
  | linkFail x =>
    cases hsel
    simp only [exec, execLinkFail] at hexec
    split at hexec <;> cases hexec
    · exact .ignored ‹_›
    · rw [raise_linkFailure]
      exact .linkFailed x (not_not.1 ‹_›)

/-- Every reaction is an outcome of the operation that the event selects. -/
theorem Reaction.selects_and_exec {s t : State} {e : Event} (h : Reaction s e t) :
    ∃ i, select s.params s.seq e = .ok i ∧ exec i s = .next t := by
  cases h with
  | ignored hi =>
    cases e with
    | reset => exact hi.elim
    | cfgWr w => exact ⟨_, rfl, by rw [exec_selectCfgWr, cfgWr, if_neg hi]⟩
    | start => exact ⟨_, rfl, if_pos hi⟩
    | stop => exact ⟨_, rfl, if_pos hi⟩
    | linkFail x => exact ⟨_, rfl, if_pos hi⟩
    | rx b =>
      refine ⟨.rxDrop b, ?_, rfl⟩
      cases hr : s.runstate with
      | run => exact absurd hr hi
      | idle | stopped | halted => simp [select, selectRx, State.seq, hr]
  | reset => exact ⟨_, rfl, rfl⟩
  | configured w hidle => exact ⟨_, rfl, by rw [exec_selectCfgWr, cfgWr, if_pos hidle]⟩
  | startRefused hidle hcfg => exact ⟨_, rfl, by simp [exec, execCmdStart, hidle, hcfg, raise_configInvalid]⟩
  | started hidle hcfg => exact ⟨_, rfl, by simp [exec, execCmdStart, hidle, hcfg, sendStart, State.emit]⟩
  | stopped hrun => exact ⟨_, rfl, by simp [exec, execCmdStop, hrun, sendStop, State.emit]⟩
  | linkFailed x hrun => exact ⟨_, rfl, by simp [exec, execLinkFail, hrun, raise_linkFailure]⟩
  | skipped b hrun hphase hfidx hscan hb =>
    exact ⟨.syncSkip b, by simp [select, selectRx, State.seq, hrun, hphase, hfidx, hscan, hb], rfl⟩
  | firstSeen b hrun hphase hfidx hscan hb =>
    exact ⟨.syncFirst b, by simp [select, selectRx, State.seq, hrun, hphase, hfidx, hscan, hb], rfl⟩
  | compared b hrun hphase hfidx hlow hhigh =>
    exact ⟨.syncConf1 b, by simp [select, selectRx, State.seq, hrun, hphase, hfidx, hlow, hhigh], rfl⟩
  | windowExhausted b hrun hphase hfidx hscan =>
    rw [← exhaustWindow_eq]
    rcases hphase with hphase | hphase
    · exact ⟨.syncWindowHunt b, by simp [select, selectRx, State.seq, hrun, hphase, hfidx, hscan], rfl⟩
    · exact ⟨.syncWindowConfirm b, by simp [select, selectRx, State.seq, hrun, hphase, hfidx, hscan], rfl⟩
  | synchronized b hrun hphase hfidx hlow hhigh hb =>
    exact ⟨.syncConf2 b, by simp [select, selectRx, State.seq, hrun, hphase, hfidx, hlow, hhigh], if_pos hb⟩
  | notConfirmed b hrun hphase hfidx hlow hhigh hb =>
    rw [← raise_syncConfirm_countScan]
    exact ⟨.syncConf2 b, by simp [select, selectRx, State.seq, hrun, hphase, hfidx, hlow, hhigh], if_neg hb⟩
  | thermRead b hrun hphase hfidx =>
    refine ⟨.rdTherm b, by simp [select, selectRx, State.seq, hrun, hphase, Nat.le_of_lt_succ hfidx], ?_⟩
    simp only [exec, execRdTherm, hfidx, dif_pos]
    split <;> rfl
  | arrayRead b hrun hphase hfidx =>
    refine ⟨.rdArray b, by simp [select, selectRx, State.seq, hrun, hphase, Nat.le_of_lt_succ hfidx], ?_⟩
    simp only [exec, execRdArray, hfidx, dif_pos]
    split <;> rfl
  | rejected b hrun hphase hfidx hb =>
    have hreject : rejectPacket b s = afterIteration s [.err 2 (infoOfBytes b s.csumacc)] :=
      raise_recoverable _ _ (.inr rfl)
    rw [← hreject]
    exact ⟨.rdCsum b, by simp [select, selectRx, State.seq, hrun, hphase, hfidx], if_neg hb⟩
  | overflowed hrun hphase hfidx hcnt =>
    refine ⟨.rdCsum s.csumacc, by simp [select, selectRx, State.seq, hrun, hphase, hfidx], ?_⟩
    simp only [exec, execRdCsum, acceptPacket, hcnt, if_true, raise_fatal .counterOverflow s (.inr rfl)]
    rfl
  | accepted hrun hphase hfidx hcnt hready =>
    refine ⟨.rdCsum s.csumacc, by simp [select, selectRx, State.seq, hrun, hphase, hfidx], ?_⟩
    simp only [exec, execRdCsum, acceptPacket, hcnt, if_true, if_false]
    exact (runPipeline_eq_next_iff _ _).2 ⟨hready, rfl⟩

/-- A step with an event waiting answers exactly what the block's reaction to the oldest one is (20_memory.md R42, R43). -/
theorem step_eq_next_iff {s t : State} {e : Event} {rest : List Event} (hin : s.inbox = e :: rest) :
    step s = .next t ↔ Reaction s.popInbox e t := by
  constructor
  · intro h
    obtain ⟨hnil, -⟩ | ⟨e', rest', i, hin', hsel, hexec⟩ := step_next_cases h
    · rw [hin] at hnil
      cases hnil
    · obtain ⟨rfl, rfl⟩ := List.cons.inj (hin.symm.trans hin')
      exact reaction_of_select hsel hexec
  · intro h
    obtain ⟨i, hsel, hexec⟩ := h.selects_and_exec
    have hsel' : select s.params s.seq e = .ok i := hsel
    simp only [step, hin, hsel', hexec]

/-- Everything a step that answers a next state can have done: nothing, or the reaction to the oldest event. -/
theorem step_next_reaction {s t : State} (h : step s = .next t) :
    (s.inbox = [] ∧ t = s) ∨ ∃ e rest, s.inbox = e :: rest ∧ Reaction s.popInbox e t := by
  cases hin : s.inbox with
  | nil =>
    obtain ⟨-, rfl⟩ | ⟨e, rest, i, hcons, -⟩ := step_next_cases h
    · exact .inl ⟨rfl, rfl⟩
    · rw [hin] at hcons
      cases hcons
  | cons e rest => exact .inr ⟨e, rest, rfl, (step_eq_next_iff hin).1 h⟩

end Sys2Proof.Machine
end

section
/-! THEOREMS. The invariant of 10_state.md R37: it holds at reset, and every outcome of a step keeps it. The accumulator's
bound (R30) comes first. -/

namespace Sys2Proof.Machine

/-- Below its maximum the packet counter does not wrap (10_state.md R20, R37 item 5). -/
theorem toNat_add_one_of_ne_max {c : Word} (h : c ≠ 0xFFFFFFFF#32) : (c + 1).toNat = c.toNat + 1 := by
  bv_omega

/-! ### The accumulator -/

/-- Two 32-bit values whose sum stays below `2 ^ 31` in magnitude add without wrap. -/
theorem toInt_add_of_natAbs_lt {a b : Word} (h : (a.toInt + b.toInt).natAbs < 2 ^ 31) :
    (a + b).toInt = a.toInt + b.toInt := by
  rw [BitVec.toInt_add]
  exact Int.bmod_eq_of_le (by omega) (by omega)

/-- A sign-extended 16-bit cell keeps its value (43_averager.md R106). -/
theorem toInt_signExtend_half (v : Half) : (v.signExtend 32).toInt = v.toInt :=
  BitVec.toInt_signExtend_of_le (by decide)

/-- A frame's cell lies within 32768 (10_state.md R37 item 2). -/
theorem natAbs_toInt_half_le (v : Half) : v.toInt.natAbs ≤ 32768 := by
  have hlow := BitVec.le_toInt v
  have hhigh := BitVec.toInt_lt (x := v)
  omega

/-- One cell of `ACC.ADD` inside a window of at most 65535 frames (10_state.md R30). -/
theorem addFrame_cell_bound {sum : SumGrid} (f : Frame) {k : Nat} (hk : k + 1 ≤ 65535) {r c : Fin 8}
    (hsum : (sum.cell r c).toInt.natAbs ≤ k * 32768) :
    ((addFrame sum f).cell r c).toInt = (sum.cell r c).toInt + (f.cell r c).toInt ∧
      ((addFrame sum f).cell r c).toInt.natAbs ≤ (k + 1) * 32768 := by
  have hcell := natAbs_toInt_half_le (f.cell r c)
  have hexact : ((addFrame sum f).cell r c).toInt = (sum.cell r c).toInt + (f.cell r c).toInt := by
    rw [addFrame_cell, toInt_add_of_natAbs_lt] <;> rw [toInt_signExtend_half]
    omega
  exact ⟨hexact, by omega⟩

/-- Settles O55: each of the 64 lanes by itself. -/
theorem accumulatorNeverWraps : Obligations.AccumulatorNeverWraps :=
  fun _ f _ hk hsum r c => addFrame_cell_bound f hk (hsum r c)

/-! ### The invariant in `IDLE` -/

/-- The two control bytes of the block differ, whatever they are (00_scope.md R6). -/
theorem params_legal : Config.params.legal := by
  have hgap := Config.stopGap.isLt
  intro h
  have hnat := congrArg BitVec.toNat h
  simp only [Config.params, Config.stopCmd, BitVec.toNat_add, BitVec.toNat_ofNat] at hnat
  omega

/-- A block in `IDLE` as reset leaves it meets the invariant with any configuration and any events (10_state.md R36, R37
item 8). -/
theorem inv_idle {p : Params} (hp : p.legal) (c : CfgRegs) (i : List Event) (o : List Output) :
    Inv { State.reset with cfg := c, params := p, inbox := i, outbox := o } where
  paramsLegal := hp
  idleIsReset _ := rfl
  runIsLegal h := absurd rfl h
  samplesInWindow h := absurd rfl h
  samplesCount h := absurd rfl h
  sumBound r c := by
    change ((Grid.all (0 : Word)).cell r c).toInt.natAbs ≤ _
    rw [Grid.cell_all]
    exact Nat.zero_le _
  prevBound h := nomatch h
  seqRange := ⟨rfl, Nat.zero_le _⟩
  iterBound _ := Nat.zero_le _
  iterReached _ _ h := nomatch h
  iterUnlimited _ := rfl
  motNeedsPrev h := nomatch h
  nothingYielded := rfl

/-- Settles O34: the reset state is an idle one with the reset configuration. -/
theorem resetMeetsTheInvariant : Obligations.ResetMeetsTheInvariant :=
  fun es => inv_idle params_legal CfgRegs.reset es []

namespace Inv

variable {s : State}

/-- What waits and what was emitted belong to the environment (log 2, 3): the invariant does not speak of them. -/
theorem environment (h : Inv s) (i : List Event) (o : List Output) : Inv { s with inbox := i, outbox := o } :=
  { h with idleIsReset := fun hidle => congrArg (fun u => { u with inbox := i, outbox := o }) (h.idleIsReset hidle) }

/-- Taking an event (R43). -/
theorem popInbox (h : Inv s) : Inv s.popInbox := h.environment s.inbox.tail s.outbox

/-- `RESET` (R160). -/
theorem resetState (h : Inv s) : Inv (resetState s) := inv_idle h.paramsLegal CfgRegs.reset s.inbox s.outbox

/-- In `IDLE` any value may be written to the configuration (10_state.md R28, R37 item 8). -/
theorem configured (h : Inv s) (hidle : s.runstate = .idle) (c : CfgRegs) : Inv { s with cfg := c } := by
  rw [h.idleIsReset hidle]
  exact inv_idle h.paramsLegal c s.inbox s.outbox

/-- `CMD.START` of a legal configuration (R121): the first window is empty. -/
theorem started (h : Inv s) (hidle : s.runstate = .idle) (hcfg : cfgLegal s.cfg = true) (o : List Output) :
    Inv { s with runstate := .run, outbox := o } := by
  have hreset := h.idleIsReset hidle
  have hsamples : s.samples = 0 := congrArg State.samples hreset
  have hpktcnt : s.pktcnt = 0 := congrArg State.pktcnt hreset
  have hitercnt : s.itercnt = 0 := congrArg State.itercnt hreset
  have hn : 1 ≤ s.cfg.n.toNat := by
    simp only [cfgLegal, Bool.and_eq_true, decide_eq_true_eq] at hcfg
    obtain ⟨⟨hn, -⟩, -⟩ := hcfg
    exact hn
  exact { h with
    idleIsReset := fun hrun => nomatch hrun
    runIsLegal := fun _ => hcfg
    samplesInWindow := fun _ => by
      rw [hsamples]
      exact hn
    samplesCount := fun _ => by simp [hsamples, hpktcnt]
    iterReached := fun hlimit heq => absurd (heq.symm.trans hitercnt) hlimit }

/-! ### The invariant in `RUN` -/

/-- The clauses that hold outside `IDLE` hold in `RUN`. -/
theorem not_idle_of_run (hrun : s.runstate = .run) : s.runstate ≠ .idle := by simp [hrun]

/-- A run ends with the pipeline's state as it is (R122, R146, R147). -/
theorem ended (h : Inv s) (hrun : s.runstate = .run) {r : RunState} (hidle : r ≠ .idle) (hr : r ≠ .run)
    (o : List Output) : Inv { s with runstate := r, outbox := o } :=
  have hs := not_idle_of_run hrun
  { h with
    idleIsReset := fun hi => absurd hi hidle
    runIsLegal := fun _ => h.runIsLegal hs
    samplesInWindow := fun _ => h.samplesInWindow hs
    samplesCount := fun _ => h.samplesCount hs
    iterReached := fun _ _ => hr }

/-- A byte that only moves the sequencing state and the packet buffers keeps the invariant if it keeps the ranges of R37
items 3 and 4. -/
theorem sequenced (h : Inv s) (hrun : s.runstate = .run) {ph : Phase} {fi sc : Byte} {co : Bool} {tb : Vector Byte 2}
    {ab : Vector Byte 128} {cs : Byte} (hseq : SeqRange { s with phase := ph, fidx := fi, scancnt := sc }) :
    Inv { s with phase := ph, fidx := fi, scancnt := sc, confok := co, thermbuf := tb, arrbuf := ab, csumacc := cs } :=
  { h with
    idleIsReset := fun hi => absurd hi (not_idle_of_run hrun)
    seqRange := hseq }

/-- In `RUN` the iteration limit is not reached yet (R37 item 6). -/
theorem itercnt_lt (h : Inv s) (hrun : s.runstate = .run) (hlimit : s.cfg.iterLimit ≠ 0) :
    s.itercnt.toNat < s.cfg.iterLimit.toNat := by
  refine lt_of_le_of_ne (h.iterBound hlimit) fun heq => ?_
  exact h.iterReached hlimit (BitVec.eq_of_toNat_eq heq) hrun

/-- The end of an iteration (R127): the count stays within the limit, and at the limit the run is over. -/
theorem afterIteration (h : Inv s) (hrun : s.runstate = .run) (l : List Output) : Inv (afterIteration s l) :=
  have hs := not_idle_of_run hrun
  { paramsLegal := h.paramsLegal
    idleIsReset := fun hidle => by
      rw [afterIteration_runstate] at hidle
      split at hidle
      · cases hidle
      · exact absurd hidle hs
    runIsLegal := fun _ => h.runIsLegal hs
    samplesInWindow := fun _ => h.samplesInWindow hs
    samplesCount := fun _ => h.samplesCount hs
    sumBound := h.sumBound
    prevBound := h.prevBound
    seqRange := ⟨rfl, Nat.zero_le _⟩
    iterBound := fun hlimit => by
      have hlt := h.itercnt_lt hrun hlimit
      simp only [afterIteration_itercnt, afterIteration_cfg] at hlimit ⊢
      rw [if_neg hlimit]
      bv_omega
    iterReached := fun hlimit heq => by
      simp only [afterIteration_itercnt, afterIteration_cfg] at hlimit heq
      rw [if_neg hlimit] at heq
      have hlast : lastIteration s = true := by
        rw [lastIteration, heq, bne_iff_ne.2 hlimit, beq_self_eq_true, Bool.and_self]
      simp [hlast]
    iterUnlimited := fun hlimit => by
      simp only [afterIteration_itercnt, afterIteration_cfg] at hlimit ⊢
      rw [if_pos hlimit]
      exact h.iterUnlimited hlimit
    motNeedsPrev := h.motNeedsPrev
    nothingYielded := h.nothingYielded }

/-- Counting a packet and its frame together (R106, R108): below the maximum neither counter wraps. -/
theorem counts_succ (h : Inv s) (hrun : s.runstate = .run) (hcnt : s.pktcnt ≠ 0xFFFFFFFF#32) :
    (s.samples + 1).toNat = s.samples.toNat + 1 ∧ s.samples.toNat + 1 ≤ s.cfg.n.toNat ∧
      (s.pktcnt + 1).toNat % s.cfg.n.toNat = (s.samples.toNat + 1) % s.cfg.n.toNat := by
  have hwindow := h.samplesInWindow (not_idle_of_run hrun)
  have hcount := h.samplesCount (not_idle_of_run hrun)
  refine ⟨by bv_omega, hwindow, ?_⟩
  rw [toNat_add_one_of_ne_max hcnt, hcount, Nat.mod_add_mod]

/-- The new sums stay within the bound of R37 item 2. -/
theorem addFrame_bound (h : Inv s) (hrun : s.runstate = .run) (f : Frame) (r c : Fin 8) :
    ((addFrame s.sum f).cell r c).toInt.natAbs ≤ (s.samples.toNat + 1) * 32768 := by
  have hwindow := h.samplesInWindow (not_idle_of_run hrun)
  have hn := s.cfg.n.isLt
  obtain ⟨-, hbound⟩ := addFrame_cell_bound f (by omega) (h.sumBound r c)
  exact hbound

/-- A packet that does not complete the window (R106, R108). -/
theorem frameAdded (h : Inv s) (hrun : s.runstate = .run) (hcnt : s.pktcnt ≠ 0xFFFFFFFF#32)
    (hn : s.samples + 1 ≠ s.cfg.n) (f : Frame) (v : Half) :
    Inv { s with pktcnt := s.pktcnt + 1, therm := v, sum := addFrame s.sum f, samples := s.samples + 1,
                 yielded := .nothing } := by
  obtain ⟨hsamples, hle, hmod⟩ := h.counts_succ hrun hcnt
  have hlt : s.samples.toNat + 1 < s.cfg.n.toNat :=
    lt_of_le_of_ne hle fun heq => hn (BitVec.eq_of_toNat_eq (hsamples.trans heq))
  exact { h with
    idleIsReset := fun hi => absurd hi (not_idle_of_run hrun)
    samplesInWindow := fun _ => hsamples ▸ hlt
    samplesCount := fun _ => by rw [hmod, hsamples, Nat.mod_eq_of_lt hlt]
    sumBound := fun r c => hsamples ▸ h.addFrame_bound hrun f r c
    nothingYielded := rfl }

/-- A packet that completes the window (R107, R108, R114): the sum of `CFG_N` frames becomes `PREV`. -/
theorem averageCompleted (h : Inv s) (hrun : s.runstate = .run) (hcnt : s.pktcnt ≠ 0xFFFFFFFF#32)
    (hn : s.samples + 1 = s.cfg.n) (f : Frame) (v : Half) (occ mot : Bool) :
    Inv { s with pktcnt := s.pktcnt + 1, therm := v, sum := Grid.all 0, samples := 0, occ := occ, mot := mot,
                 prev := addFrame s.sum f, prevvalid := true, yielded := .nothing } := by
  obtain ⟨hsamples, hle, hmod⟩ := h.counts_succ hrun hcnt
  have hfull : s.samples.toNat + 1 = s.cfg.n.toNat := by rw [← hsamples, hn]
  exact { h with
    idleIsReset := fun hi => absurd hi (not_idle_of_run hrun)
    samplesInWindow := fun _ => Nat.lt_of_lt_of_le (Nat.succ_pos _) hle
    samplesCount := fun _ => by rw [hmod, hfull, Nat.mod_self]; rfl
    sumBound := fun r c => by
      rw [Grid.cell_all]
      exact Nat.zero_le _
    prevBound := fun _ r c => hfull ▸ h.addFrame_bound hrun f r c
    motNeedsPrev := fun _ => rfl
    nothingYielded := rfl }

/-- `PKT.ACCEPT` below the counter's maximum (R95, R120). -/
theorem accepted (h : Inv s) (hrun : s.runstate = .run) (hcnt : s.pktcnt ≠ 0xFFFFFFFF#32) :
    Inv (pipeline (afterCount s)) := by
  by_cases hn : s.samples + 1 = s.cfg.n
  · rw [pipeline_complete (afterCount s) hn]
    exact (h.averageCompleted hrun hcnt hn _ _ _ _).afterIteration hrun _
  · rw [pipeline_incomplete (afterCount s) hn]
    exact (h.frameAdded hrun hcnt hn _ _).afterIteration hrun _

end Inv

/-! ### Every reaction keeps the invariant -/

/-- Inside an attempt the count of its bytes does not wrap (10_state.md R13). -/
theorem toNat_scancnt_succ {c : Byte} (h : c.toNat ≤ 133) : (c + 1).toNat = c.toNat + 1 := by bv_omega

/-- The ranges of the sequencing state after `SYNC.SKIP` (R81). -/
theorem seqRange_skipped {s : State} (hphase : s.phase = .hunt) (hfidx : s.fidx = 0) (hscan : s.scancnt.toNat ≤ 132) :
    SeqRange (countScan s) := by
  simp only [SeqRange, countScan_phase, hphase, countScan_fidx, countScan_scancnt]
  rw [toNat_scancnt_succ (by omega)]
  exact ⟨hfidx, by omega⟩

/-- The ranges of the sequencing state after `SYNC.FIRST` (R82). -/
theorem seqRange_firstSeen {s : State} (hscan : s.scancnt.toNat ≤ 132) :
    SeqRange { countScan s with phase := .confirm, fidx := 0 } := by
  simp only [SeqRange, countScan_scancnt]
  rw [toNat_scancnt_succ (by omega)]
  exact .inl ⟨trivial, by omega, by omega⟩

/-- The ranges of the sequencing state after `SYNC.CONF1` (R83). -/
theorem seqRange_compared {s : State} (hphase : s.phase = .confirm) (hlow : 1 ≤ s.scancnt.toNat)
    (hhigh : s.scancnt.toNat ≤ 132) : SeqRange { countScan s with fidx := 1 } := by
  simp only [SeqRange, countScan_phase, hphase, countScan_scancnt]
  rw [toNat_scancnt_succ (by omega)]
  exact .inr ⟨trivial, by omega, by omega⟩

/-- The ranges of the sequencing state after a successful `SYNC.CONF2` (R84). -/
theorem seqRange_synchronized {s : State} (hhigh : s.scancnt.toNat ≤ 133) :
    SeqRange { countScan s with phase := .therm, fidx := 0 } := by
  simp only [SeqRange, countScan_scancnt]
  rw [toNat_scancnt_succ hhigh]
  exact ⟨Nat.zero_le _, by omega⟩

/-- The ranges of the sequencing state after `RD.THERM` (R91). -/
theorem seqRange_thermRead {s : State} (hrange : SeqRange s) (hphase : s.phase = .therm) :
    SeqRange { s with phase := if s.fidx = 0 then s.phase else .array, fidx := if s.fidx = 0 then 1 else 0 } := by
  simp only [SeqRange, hphase] at hrange
  obtain ⟨-, hscan⟩ := hrange
  split
  · simp [SeqRange, hphase, hscan]
  · simp [SeqRange, hscan]

/-- The ranges of the sequencing state after `RD.ARRAY` (R92). -/
theorem seqRange_arrayRead {s : State} (hrange : SeqRange s) (hphase : s.phase = .array) :
    SeqRange { s with phase := if s.fidx.toNat < 127 then s.phase else .csum,
                      fidx := if s.fidx.toNat < 127 then s.fidx + 1 else 0 } := by
  simp only [SeqRange, hphase] at hrange
  obtain ⟨-, hscan⟩ := hrange
  split
  · simp only [SeqRange, hphase]
    exact ⟨by bv_omega, hscan⟩
  · simp [SeqRange, hscan]

/-- The invariant is kept by every outcome of every operation that an event selects. -/
theorem Reaction.keeps_inv {s t : State} {e : Event} (h : Reaction s e t) (hinv : Inv s) : Inv t := by
  cases h with
  | ignored => exact hinv
  | reset => exact hinv.resetState
  | configured w hidle => exact hinv.configured hidle _
  | startRefused hidle hcfg => exact hinv.environment _ _
  | started hidle hcfg => exact hinv.started hidle hcfg _
  | stopped hrun | linkFailed x hrun | overflowed hrun => exact hinv.ended hrun (by decide) (by decide) _
  | skipped b hrun hphase hfidx hscan => exact hinv.sequenced hrun (seqRange_skipped hphase hfidx hscan)
  | firstSeen b hrun hphase hfidx hscan => exact hinv.sequenced hrun (seqRange_firstSeen hscan)
  | compared b hrun hphase hfidx hlow hhigh => exact hinv.sequenced hrun (seqRange_compared hphase hlow hhigh)
  | synchronized b hrun hphase hfidx hlow hhigh => exact hinv.sequenced hrun (seqRange_synchronized hhigh)
  | thermRead b hrun hphase => exact hinv.sequenced hrun (seqRange_thermRead hinv.seqRange hphase)
  | arrayRead b hrun hphase => exact hinv.sequenced hrun (seqRange_arrayRead hinv.seqRange hphase)
  | windowExhausted b hrun | notConfirmed b hrun | rejected b hrun => exact hinv.afterIteration hrun _
  | accepted hrun hphase hfidx hcnt => exact hinv.accepted hrun hcnt

/-- Settles O40: by the outcomes of a step, each with its rule's lemma about the invariant. -/
theorem everyStepKeepsTheInvariant : Obligations.EveryStepKeepsTheInvariant := by
  intro s t hinv h
  obtain ⟨-, rfl⟩ | ⟨e, rest, hin, hreact⟩ := step_next_reaction h
  · exact hinv
  · exact hreact.keeps_inv hinv.popInbox

end Sys2Proof.Machine
end

section
/-! THEOREMS. What a step leaves alone: `THERM` reaches nothing else (10_state.md R19), `PKTCNT` only grows (R20), the
configuration and the parameters are frozen (R28, R35), and what the host reads (R29). -/

namespace Sys2Proof.Machine

/-! ### The thermistor value -/

/-- `PKT.ACCEPT` overwrites `THERM` before the pipeline runs (41_packet_checksum.md R95). -/
theorem afterCount_withTherm (s : State) (v : Half) : afterCount { s with therm := v } = afterCount s := rfl

/-- Two states that differ in `THERM` react alike: `THERM` is kept, cleared by `RESET` or overwritten by `PKT.ACCEPT`. -/
theorem Reaction.withTherm {s t : State} {e : Event} (h : Reaction s e t) (v : Half) :
    ∃ w, Reaction { s with therm := v } e { t with therm := w } := by
  cases h with
  | ignored hi => exact ⟨v, .ignored (by cases e <;> exact hi)⟩
  | reset => exact ⟨0, .reset⟩
  | configured w hidle => exact ⟨v, .configured w hidle⟩
  | startRefused hidle hcfg => exact ⟨v, .startRefused hidle hcfg⟩
  | started hidle hcfg => exact ⟨v, .started hidle hcfg⟩
  | stopped hrun => exact ⟨v, .stopped hrun⟩
  | linkFailed x hrun => exact ⟨v, .linkFailed x hrun⟩
  | skipped b hrun hphase hfidx hscan hb => exact ⟨v, .skipped b hrun hphase hfidx hscan hb⟩
  | firstSeen b hrun hphase hfidx hscan hb => exact ⟨v, .firstSeen b hrun hphase hfidx hscan hb⟩
  | compared b hrun hphase hfidx hlow hhigh => exact ⟨v, .compared b hrun hphase hfidx hlow hhigh⟩
  | windowExhausted b hrun hphase hfidx hscan => exact ⟨v, .windowExhausted b hrun hphase hfidx hscan⟩
  | synchronized b hrun hphase hfidx hlow hhigh hb => exact ⟨v, .synchronized b hrun hphase hfidx hlow hhigh hb⟩
  | notConfirmed b hrun hphase hfidx hlow hhigh hb => exact ⟨v, .notConfirmed b hrun hphase hfidx hlow hhigh hb⟩
  | thermRead b hrun hphase hfidx => exact ⟨v, .thermRead (s := { s with therm := v }) b hrun hphase hfidx⟩
  | arrayRead b hrun hphase hfidx => exact ⟨v, .arrayRead (s := { s with therm := v }) b hrun hphase hfidx⟩
  | rejected b hrun hphase hfidx hb => exact ⟨v, .rejected b hrun hphase hfidx hb⟩
  | overflowed hrun hphase hfidx hcnt => exact ⟨v, .overflowed hrun hphase hfidx hcnt⟩
  | accepted hrun hphase hfidx hcnt hready =>
    have haccept := Reaction.accepted (s := { s with therm := v }) hrun hphase hfidx hcnt hready
    rw [afterCount_withTherm] at haccept
    generalize pipeline (afterCount s) = t at haccept ⊢
    exact ⟨t.therm, haccept⟩

/-- Settles O49: the block reacts alike in states that differ in `THERM`. -/
theorem thermInfluencesNothingElse : Obligations.ThermInfluencesNothingElse := by
  intro s t v h
  obtain ⟨hnil, rfl⟩ | ⟨e, rest, hin, hreact⟩ := step_next_reaction h
  · refine ⟨v, ?_⟩
    simp only [step, hnil]
  · obtain ⟨w, hw⟩ := hreact.withTherm v
    exact ⟨w, (step_eq_next_iff (s := { s with therm := v }) hin).2 hw⟩

/-! ### The packet counter and the configuration -/

/-- The packet counter moves by `RESET` or by an accepted packet only (10_state.md R20). -/
theorem Reaction.pktcnt_cases {s t : State} {e : Event} (h : Reaction s e t) :
    t.pktcnt = s.pktcnt ∨ e = .reset ∨
      (s.runstate = .run ∧ s.phase = .csum ∧ e = .rx s.csumacc ∧ s.pktcnt ≠ 0xFFFFFFFF#32 ∧
        t.pktcnt = s.pktcnt + 1) := by
  cases h with
  | reset => exact .inr (.inl rfl)
  | accepted hrun hphase hfidx hcnt hready => exact .inr (.inr ⟨hrun, hphase, rfl, hcnt, pipeline_pktcnt _⟩)
  | _ => exact .inl rfl

/-- Settles O46: by the outcomes of a step that move `PKTCNT`. -/
theorem packetCountOnlyGrowsByOne : Obligations.PacketCountOnlyGrowsByOne := by
  intro s t h hne
  obtain ⟨-, rfl⟩ | ⟨e, rest, hin, hreact⟩ := step_next_reaction h
  · exact absurd rfl hne
  · obtain hsame | rfl | ⟨hrun, hphase, rfl, hcnt, hnew⟩ := hreact.pktcnt_cases
    · exact absurd hsame hne
    · exact .inl (by rw [hin]; rfl)
    · refine .inr ⟨hrun, hphase, by rw [hin]; rfl, ?_⟩
      rw [hnew]
      exact toNat_add_one_of_ne_max hcnt

/-- No reaction changes the parameters (log 1). -/
theorem Reaction.params_eq {s t : State} {e : Event} (h : Reaction s e t) : t.params = s.params := by
  cases h with
  | accepted => exact pipeline_params _
  | _ => rfl

/-- The configuration after an event (10_state.md R28): `RESET` restores it, `CFGWR` writes it in `IDLE`, nothing else
changes it. -/
def cfgAfter (s : State) : Event → CfgRegs
  | .reset => CfgRegs.reset
  | .cfgWr w => if s.runstate = .idle then writeCfg s.cfg w else s.cfg
  | .start | .stop | .rx _ | .linkFail _ => s.cfg

/-- `cfgAfter` is what every outcome leaves in the configuration registers. -/
theorem Reaction.cfg_eq {s t : State} {e : Event} (h : Reaction s e t) : t.cfg = cfgAfter s e := by
  cases h with
  | ignored hi =>
    cases e with
    | reset => exact hi.elim
    | cfgWr w => exact (if_neg hi).symm
    | start | stop | rx | linkFail => rfl
  | configured w hidle => exact (if_pos hidle).symm
  | accepted => exact pipeline_cfg _
  | _ => rfl

/-- Outside `IDLE` only `RESET` changes the configuration (10_state.md R28, 20_memory.md R54). -/
theorem cfgAfter_of_not_idle {s : State} {e : Event} (hidle : s.runstate ≠ .idle) (he : e ≠ .reset) :
    cfgAfter s e = s.cfg := by
  cases e with
  | reset => exact absurd rfl he
  | cfgWr w => exact if_neg hidle
  | start | stop | rx | linkFail => rfl

/-- Settles O47: by `cfgAfter`, and by no outcome touching the parameters. -/
theorem configurationIsFrozenDuringARun : Obligations.ConfigurationIsFrozenDuringARun := by
  intro s t h
  obtain ⟨-, rfl⟩ | ⟨e, rest, hin, hreact⟩ := step_next_reaction h
  · exact ⟨rfl, fun _ _ => rfl⟩
  · refine ⟨hreact.params_eq, fun hidle hhead => ?_⟩
    have he : e ≠ .reset := by
      rintro rfl
      exact hhead (by rw [hin]; rfl)
    exact hreact.cfg_eq.trans (cfgAfter_of_not_idle hidle he)

/-- Settles O60: the view copies the readable elements; the configuration after a step is `cfgAfter` of the event. -/
theorem hostReadsTheStatus : Obligations.HostReadsTheStatus := by
  refine ⟨fun s => ⟨rfl, rfl, rfl, rfl, rfl, rfl, rfl, rfl, rfl, rfl, rfl, rfl⟩, fun _ _ _ _ _ _ _ => rfl,
    fun s t h => ?_, fun s w rest hidle hin => ?_⟩
  · obtain ⟨hnil, rfl⟩ | ⟨e, rest, hin, hreact⟩ := step_next_reaction h
    · rw [hnil]
      rfl
    · have hcfg : t.hostView.cfg = cfgAfter s e := hreact.cfg_eq
      rw [hcfg, hin]
      cases e <;> rfl
  · have hpop : s.popInbox = { s with inbox := rest } := by rw [State.popInbox, hin, List.tail_cons]
    rw [← hpop]
    exact (step_eq_next_iff hin).2 (.ignored hidle)

end Sys2Proof.Machine
end

section
/-! THEOREMS. The step itself (20_memory.md R42, R43): it runs the operation that R65 selects for the oldest event, and
between any two steps of a run the block has a reaction to every event that can come. -/

namespace Sys2Proof.Machine

/-- A step with an event waiting runs the operation that R65 selects, the event being consumed (20_memory.md R42). -/
theorem step_eq_exec {s : State} {e : Event} {rest : List Event} {i : Instr} (hin : s.inbox = e :: rest)
    (hsel : select s.params s.seq e = .ok i) : step s = exec i { s with inbox := rest } := by
  simp only [step, hin, hsel, State.popInbox, List.tail_cons]

/-- Between events the block does nothing (20_memory.md R43, log 2). -/
theorem step_of_inbox_nil {s : State} (hnil : s.inbox = []) : step s = .next s := by
  simp only [step, hnil]

/-- Settles O1: the two branches of the step. -/
theorem stepRunsTheSelectedOperation : Obligations.StepRunsTheSelectedOperation :=
  ⟨fun _ _ _ _ => step_eq_exec, fun _ => step_of_inbox_nil⟩

/-! ### No reaction touches the waiting events -/

@[simp] theorem pipeline_inbox (s : State) : (pipeline s).inbox = s.inbox := by
  by_cases h : s.samples + 1 = s.cfg.n
  · simp [pipeline_complete s h, windowCompleted]
  · simp [pipeline_incomplete s h, windowGrown]

/-- The operations that events select consume no further event and bring none back (20_memory.md R43). -/
theorem Reaction.inbox_eq {s t : State} {e : Event} (h : Reaction s e t) : t.inbox = s.inbox := by
  cases h with
  | accepted => exact pipeline_inbox _
  | _ => rfl

/-! ### Every event has a reaction -/

/-- An event without a function here is ignored (30_encoding.md R69), so only an event that acts needs a case. -/
theorem exists_reaction_of_acting {s : State} {e : Event} (h : ¬ Ignores s e → ∃ t, Reaction s e t) :
    ∃ t, Reaction s e t := by
  by_cases hignored : Ignores s e
  · exact ⟨s, .ignored hignored⟩
  · exact h hignored

/-- A host or link event has a reaction in every state, reachable or not (30_encoding.md R65, second table). -/
theorem exists_reaction_of_ne_rx (s : State) {e : Event} (he : ∀ b, e ≠ .rx b) : ∃ t, Reaction s e t := by
  refine exists_reaction_of_acting fun hacts => ?_
  cases e with
  | rx b => exact absurd rfl (he b)
  | reset => exact ⟨_, .reset⟩
  | cfgWr w => exact ⟨_, .configured w (not_not.1 hacts)⟩
  | start =>
    cases hcfg : cfgLegal s.cfg with
    | false => exact ⟨_, .startRefused (not_not.1 hacts) hcfg⟩
    | true => exact ⟨_, .started (not_not.1 hacts) hcfg⟩
  | stop => exact ⟨_, .stopped (not_not.1 hacts)⟩
  | linkFail x => exact ⟨_, .linkFailed x (not_not.1 hacts)⟩

namespace Inv

variable {s : State}

/-- In `RUN` a counted packet finds the pipeline ready: none of 93_implementation_defined.md X3, X4, X6 holds. -/
theorem pipelineReady_afterCount (h : Inv s) (hrun : s.runstate = .run) : PipelineReady (afterCount s) :=
  have hs := not_idle_of_run hrun
  ⟨h.runIsLegal hs, h.samplesInWindow hs, h.motNeedsPrev⟩

/-- A byte while the first marker byte is looked for (R81, R82, R85). -/
theorem exists_reaction_hunt (h : Inv s) (hrun : s.runstate = .run) (hphase : s.phase = .hunt) (b : Byte) :
    ∃ t, Reaction s (.rx b) t := by
  have hrange := h.seqRange
  simp only [SeqRange, hphase] at hrange
  obtain ⟨hfidx, hscan⟩ := hrange
  obtain hscan | hscan : s.scancnt.toNat ≤ 132 ∨ s.scancnt.toNat = 133 := by omega
  · by_cases hb : b = s.params.marker
    · exact ⟨_, .firstSeen b hrun hphase hfidx hscan hb⟩
    · exact ⟨_, .skipped b hrun hphase hfidx hscan hb⟩
  · exact ⟨_, .windowExhausted b hrun (.inl hphase) hfidx hscan⟩

/-- A byte after the first marker byte (R83, R84, R85). -/
theorem exists_reaction_confirm (h : Inv s) (hrun : s.runstate = .run) (hphase : s.phase = .confirm) (b : Byte) :
    ∃ t, Reaction s (.rx b) t := by
  have hrange := h.seqRange
  simp only [SeqRange, hphase] at hrange
  obtain ⟨hfidx, hlow, hscan⟩ | ⟨hfidx, hlow, hhigh⟩ := hrange
  · obtain hhigh | hscan : s.scancnt.toNat ≤ 132 ∨ s.scancnt.toNat = 133 := by omega
    · exact ⟨_, .compared b hrun hphase hfidx hlow hhigh⟩
    · exact ⟨_, .windowExhausted b hrun (.inr hphase) hfidx hscan⟩
  · by_cases hb : s.confok = true ∧ b = s.params.marker
    · exact ⟨_, .synchronized b hrun hphase hfidx hlow hhigh hb⟩
    · exact ⟨_, .notConfirmed b hrun hphase hfidx hlow hhigh hb⟩

/-- A checksum byte (R93 to R95). -/
theorem exists_reaction_csum (h : Inv s) (hrun : s.runstate = .run) (hphase : s.phase = .csum) (b : Byte) :
    ∃ t, Reaction s (.rx b) t := by
  have hrange := h.seqRange
  simp only [SeqRange, hphase] at hrange
  obtain ⟨hfidx, -⟩ := hrange
  by_cases hb : b = s.csumacc
  · subst hb
    by_cases hcnt : s.pktcnt = 0xFFFFFFFF#32
    · exact ⟨_, .overflowed hrun hphase hfidx hcnt⟩
    · exact ⟨_, .accepted hrun hphase hfidx hcnt (h.pipelineReady_afterCount hrun)⟩
  · exact ⟨_, .rejected b hrun hphase hfidx hb⟩

/-- A byte has a reaction: the ranges of R37 items 3 and 4 are those of R65's first table. -/
theorem exists_reaction_rx (h : Inv s) (b : Byte) : ∃ t, Reaction s (.rx b) t := by
  refine exists_reaction_of_acting fun hacts => ?_
  have hrun : s.runstate = .run := not_not.1 hacts
  have hrange := h.seqRange
  cases hphase : s.phase with
  | hunt => exact h.exists_reaction_hunt hrun hphase b
  | confirm => exact h.exists_reaction_confirm hrun hphase b
  | therm =>
    simp only [SeqRange, hphase] at hrange
    obtain ⟨hfidx, -⟩ := hrange
    exact ⟨_, .thermRead b hrun hphase (Nat.lt_succ_of_le hfidx)⟩
  | array =>
    simp only [SeqRange, hphase] at hrange
    obtain ⟨hfidx, -⟩ := hrange
    exact ⟨_, .arrayRead b hrun hphase (Nat.lt_succ_of_le hfidx)⟩
  | csum => exact h.exists_reaction_csum hrun hphase b

/-- Between any two steps of a run the block has a reaction to every event (20_memory.md R42). -/
theorem exists_reaction (h : Inv s) (e : Event) : ∃ t, Reaction s e t := by
  cases e with
  | rx b => exact h.exists_reaction_rx b
  | _ => exact exists_reaction_of_ne_rx s nofun

end Inv

/-- Settles O41: the oldest event has a reaction, which leaves the other waiting events alone. -/
theorem stepIsDefinedForEveryEvent : Obligations.StepIsDefinedForEveryEvent := by
  intro s hinv
  cases hin : s.inbox with
  | nil => exact ⟨s, step_of_inbox_nil hin, hin⟩
  | cons e rest =>
    obtain ⟨t, hreact⟩ := hinv.popInbox.exists_reaction e
    refine ⟨t, (step_eq_next_iff hin).2 hreact, ?_⟩
    rw [hreact.inbox_eq, State.popInbox_inbox, hin]

end Sys2Proof.Machine
end

section
/-! SUPPORT. The wire packet (30_encoding.md R61, R62): where each byte of a well-formed packet stands, that the encoder
lays the bytes out so, and that the decoder accepts exactly the sequences laid out so. -/

namespace Sys2Proof

/-! ### Bytes of a sequence -/

theorem loByte_eq_ofNat (v : Half) : loByte v = BitVec.ofNat 8 v.toNat := rfl

theorem hiByte_eq_ofNat (v : Half) : hiByte v = BitVec.ofNat 8 (v.toNat / 256) :=
  congrArg (BitVec.ofNat 8) (Nat.shiftRight_eq_div_pow v.toNat 8)

theorem byteAt_of_getElem? {bytes : List Byte} {i : Nat} {b : Byte} (h : bytes[i]? = some b) : byteAt bytes i = b := by
  simp only [byteAt, List.getD_eq_getElem?_getD, h, Option.getD_some]

theorem getElem?_eq_byteAt {bytes : List Byte} {i : Nat} (h : i < bytes.length) : bytes[i]? = some (byteAt bytes i) := by
  simp only [byteAt, List.getD_eq_getElem?_getD, List.getElem?_eq_getElem h, Option.getD_some]

/-- A 16-bit value is read back from its two bytes (R62). -/
theorem halfAt_of_getElem? {bytes : List Byte} {i : Nat} {v : Half} (hlo : bytes[i]? = some (loByte v))
    (hhi : bytes[i + 1]? = some (hiByte v)) : halfAt bytes i = v := by
  simp only [halfAt, byteAt_of_getElem? hlo, byteAt_of_getElem? hhi, halfOfBytes_loByte_hiByte]

/-- The bytes at two neighbouring offsets are the bytes of the 16-bit value read there (R62). -/
theorem getElem?_eq_bytes_of_halfAt {bytes : List Byte} {i : Nat} (h : i + 1 < bytes.length) :
    bytes[i]? = some (loByte (halfAt bytes i)) ∧ bytes[i + 1]? = some (hiByte (halfAt bytes i)) := by
  simp only [halfAt, loByte_halfOfBytes, hiByte_halfOfBytes]
  exact ⟨getElem?_eq_byteAt (Nat.lt_of_succ_lt h), getElem?_eq_byteAt h⟩

/-- The front of a sequence, byte by byte. -/
theorem take_eq_replicate_iff {bytes : List Byte} {n : Nat} {b : Byte} :
    bytes.take n = List.replicate n b ↔ ∀ j, j < n → bytes[j]? = some b := by
  constructor
  · intro h j hj
    rw [← List.getElem?_take_of_lt hj, h, List.getElem?_replicate_of_lt hj]
  · intro h
    apply List.ext_getElem?
    intro j
    rcases Nat.lt_or_ge j n with hj | hj
    · rw [List.getElem?_take_of_lt hj, h j hj, List.getElem?_replicate_of_lt hj]
    · rw [List.getElem?_eq_none (by simp; omega), List.getElem?_eq_none (by simpa using hj)]

/-! ### The encoder's pairs of bytes -/

section Pairs

variable {α β : Type} (f g : α → β)

/-- The two bytes of entry `k` stand at `2k` and `2k + 1`. -/
theorem getElem?_flatMap_pair (l : List α) (k : Nat) :
    (l.flatMap fun v => [f v, g v])[2 * k]? = l[k]?.map f ∧
      (l.flatMap fun v => [f v, g v])[2 * k + 1]? = l[k]?.map g := by
  induction l generalizing k with
  | nil => simp
  | cons x xs ih =>
    cases k with
    | zero => simp
    | succ k => simpa [Nat.mul_succ] using ih k

end Pairs

/-! ### The layout of R61 -/

/-- `bytes` is the packet of R61 with this thermistor value and these array values, offset by offset. -/
structure IsPacketOf (p : Params) (therm : Half) (vals : Vector Half 64) (bytes : List Byte) : Prop where
  length_eq : bytes.length = 134
  marker : ∀ j, j < 3 → bytes[j]? = some p.marker
  thermLo : bytes[3]? = some (loByte therm)
  thermHi : bytes[4]? = some (hiByte therm)
  valueLo : ∀ k : Fin 64, bytes[5 + 2 * k.val]? = some (loByte vals[k.val])
  valueHi : ∀ k : Fin 64, bytes[6 + 2 * k.val]? = some (hiByte vals[k.val])
  checksum_eq : bytes[133]? = some (checksum (packetData bytes))

@[simp] theorem length_encodeData (therm : Half) (vals : Vector Half 64) : (encodeData therm vals).length = 130 := by
  simp [encodeData]

@[simp] theorem length_encodePacket (p : Params) (therm : Half) (vals : Vector Half 64) :
    (encodePacket p therm vals).length = 134 := by
  simp [encodePacket]

/-- The checksum covers exactly the encoder's data bytes (90_conflicts.md C3). -/
@[simp] theorem packetData_encodePacket (p : Params) (therm : Half) (vals : Vector Half 64) :
    packetData (encodePacket p therm vals) = encodeData therm vals := by
  have h : Config.dataLen = (encodeData therm vals).length := (length_encodeData therm vals).symm
  simp [packetData, encodePacket, Config.markerLen, h]

/-- Data byte `j` stands at offset `3 + j`. -/
theorem getElem?_encodePacket_data (p : Params) (therm : Half) (vals : Vector Half 64) {j : Nat} (h : j < 130) :
    (encodePacket p therm vals)[j + 3]? = (encodeData therm vals)[j]? := by
  simp [encodePacket, List.getElem?_append, h]

/-- The encoder lays the packet out as R61 does. -/
theorem isPacketOf_encodePacket (p : Params) (therm : Half) (vals : Vector Half 64) :
    IsPacketOf p therm vals (encodePacket p therm vals) where
  length_eq := length_encodePacket p therm vals
  marker := take_eq_replicate_iff.1 rfl
  thermLo := rfl
  thermHi := rfl
  valueLo k := by
    have h := (getElem?_flatMap_pair loByte hiByte vals.toList k.val).1
    rw [show 5 + 2 * k.val = (2 * k.val + 2) + 3 by omega, getElem?_encodePacket_data _ _ _ (by omega)]
    simpa [encodeData] using h
  valueHi k := by
    have h := (getElem?_flatMap_pair loByte hiByte vals.toList k.val).2
    rw [show 6 + 2 * k.val = (2 * k.val + 1 + 2) + 3 by omega, getElem?_encodePacket_data _ _ _ (by omega)]
    simpa [encodeData] using h
  checksum_eq := by
    rw [packetData_encodePacket, encodePacket, List.getElem?_append_right (by simp)]
    simp

namespace IsPacketOf

variable {p : Params} {therm : Half} {vals : Vector Half 64} {bytes bytes' : List Byte}

/-- Every offset below the checksum belongs to one field of the layout. -/
theorem getElem?_congr (h : IsPacketOf p therm vals bytes) (h' : IsPacketOf p therm vals bytes') {j : Nat} (hj : j < 133) :
    bytes[j]? = bytes'[j]? := by
  have hfield : j < 3 ∨ j = 3 ∨ j = 4 ∨ (∃ k : Fin 64, j = 5 + 2 * k.val) ∨ ∃ k : Fin 64, j = 6 + 2 * k.val := by
    by_cases hlow : j < 5
    · omega
    · rcases Nat.mod_two_eq_zero_or_one j with hpar | hpar
      · exact .inr (.inr (.inr (.inr ⟨⟨(j - 6) / 2, by omega⟩, by simp only; omega⟩)))
      · exact .inr (.inr (.inr (.inl ⟨⟨(j - 5) / 2, by omega⟩, by simp only; omega⟩)))
  obtain hm | rfl | rfl | ⟨k, rfl⟩ | ⟨k, rfl⟩ := hfield
  · rw [h.marker j hm, h'.marker j hm]
  · rw [h.thermLo, h'.thermLo]
  · rw [h.thermHi, h'.thermHi]
  · rw [h.valueLo k, h'.valueLo k]
  · rw [h.valueHi k, h'.valueHi k]

/-- The checksum covers no byte outside the fields. -/
theorem packetData_congr (h : IsPacketOf p therm vals bytes) (h' : IsPacketOf p therm vals bytes') :
    packetData bytes = packetData bytes' := by
  apply List.ext_getElem?
  intro j
  simp only [packetData, Config.markerLen, Config.dataLen, Config.thermLen, Config.arrayLen, List.getElem?_take,
    List.getElem?_drop]
  split
  · exact h.getElem?_congr h' (by omega)
  · rfl

/-- The layout fixes every byte: the packet of these values is the encoder's. -/
theorem eq_encodePacket (h : IsPacketOf p therm vals bytes) : bytes = encodePacket p therm vals := by
  have h' := isPacketOf_encodePacket p therm vals
  apply List.ext_getElem?
  intro j
  rcases Nat.lt_trichotomy j 133 with hj | rfl | hj
  · exact h.getElem?_congr h' hj
  · rw [h.checksum_eq, h'.checksum_eq, h.packetData_congr h']
  · rw [List.getElem?_eq_none (by rw [h.length_eq]; exact hj), List.getElem?_eq_none (by rw [h'.length_eq]; exact hj)]

/-- The decoder reads back the values of a packet laid out as in R61. -/
theorem decodePacket_eq (h : IsPacketOf p therm vals bytes) : decodePacket p bytes = .ok (.packet therm vals) := by
  have hvals : (Vector.ofFn fun k : Fin 64 => halfAt bytes (5 + 2 * k.val)) = vals := by
    apply Vector.ext
    intro k hk
    have hhi : bytes[5 + 2 * k + 1]? = some (hiByte vals[k]) := by
      rw [Nat.add_right_comm]
      exact h.valueHi ⟨k, hk⟩
    rw [Vector.getElem_ofFn, halfAt_of_getElem? (h.valueLo ⟨k, hk⟩) hhi]
  have hlen : ¬bytes.length ≠ Config.packetWidth := not_not.2 h.length_eq
  have hmarker : ¬bytes.take Config.markerLen ≠ [p.marker, p.marker, p.marker] :=
    not_not.2 (take_eq_replicate_iff.2 h.marker)
  rw [decodePacket, if_neg hlen, if_neg hmarker, if_neg (not_not.2 (byteAt_of_getElem? h.checksum_eq)),
    halfAt_of_getElem? h.thermLo h.thermHi, hvals]

end IsPacketOf

/-- A sequence with the length, the markers and the checksum of R61 is the packet of the values read from it. -/
theorem isPacketOf_of_framing {p : Params} {bytes : List Byte} (hlen : bytes.length = 134)
    (hmarker : ∀ j, j < 3 → bytes[j]? = some p.marker) (hcsum : bytes[133]? = some (checksum (packetData bytes))) :
    IsPacketOf p (halfAt bytes 3) (Vector.ofFn fun k : Fin 64 => halfAt bytes (5 + 2 * k.val)) bytes where
  length_eq := hlen
  marker := hmarker
  thermLo := (getElem?_eq_bytes_of_halfAt (by omega)).1
  thermHi := (getElem?_eq_bytes_of_halfAt (by omega)).2
  valueLo k := by
    rw [Vector.getElem_ofFn]
    exact (getElem?_eq_bytes_of_halfAt (by omega)).1
  valueHi k := by
    rw [Vector.getElem_ofFn, show 6 + 2 * k.val = 5 + 2 * k.val + 1 by omega]
    exact (getElem?_eq_bytes_of_halfAt (by omega)).2
  checksum_eq := hcsum

/-- What the packet decoder accepts has the length, the markers and the checksum of R61. -/
theorem framing_of_decodePacket {p : Params} {bytes : List Byte} {i : Instr} (h : decodePacket p bytes = .ok i) :
    bytes.length = 134 ∧ (∀ j, j < 3 → bytes[j]? = some p.marker) ∧
      bytes[133]? = some (checksum (packetData bytes)) := by
  unfold decodePacket at h
  split_ifs at h with hlen hmarker hcsum
  have hlen : bytes.length = 134 := not_not.1 hlen
  refine ⟨hlen, take_eq_replicate_iff.1 (not_not.1 hmarker), ?_⟩
  rw [getElem?_eq_byteAt (by omega), not_not.1 hcsum]

/-- The packet decoder accepts exactly the packets of R61, and answers their values. -/
theorem decodePacket_eq_ok_iff {p : Params} {bytes : List Byte} {i : Instr} :
    decodePacket p bytes = .ok i ↔ ∃ therm vals, i = .packet therm vals ∧ IsPacketOf p therm vals bytes := by
  constructor
  · intro h
    obtain ⟨hlen, hmarker, hcsum⟩ := framing_of_decodePacket h
    have hpacket := isPacketOf_of_framing hlen hmarker hcsum
    rw [hpacket.decodePacket_eq] at h
    cases h
    exact ⟨_, _, rfl, hpacket⟩
  · rintro ⟨therm, vals, rfl, h⟩
    exact h.decodePacket_eq

end Sys2Proof
end

section
/-! THEOREMS. The wire formats: the packet codec (30_encoding.md R61, R62), and what executing a wire row delivers or
sends (R64, 20_memory.md R43). -/

namespace Sys2Proof.Machine

/-- Settles O38: acceptance is the framing of R61, and the layout fixes every byte. -/
theorem packetDecoderAcceptsWellFormed : Obligations.PacketDecoderAcceptsWellFormed := by
  intro p bytes
  refine ⟨⟨fun ⟨i, hi⟩ => framing_of_decodePacket hi, fun ⟨hlen, hmarker, hcsum⟩ => ?_⟩, fun i hi => ?_⟩
  · exact ⟨_, (isPacketOf_of_framing hlen hmarker hcsum).decodePacket_eq⟩
  · obtain ⟨therm, vals, rfl, hpacket⟩ := decodePacket_eq_ok_iff.1 hi
    rw [hpacket.eq_encodePacket]
    rfl

/-- Settles O31: what is delivered is laid out as R61 lays a packet out. -/
theorem packetArrivesByteByByte : Obligations.PacketArrivesByteByByte := by
  intro s therm vals
  have h := isPacketOf_encodePacket s.params therm vals
  simp only [← loByte_eq_ofNat, ← hiByte_eq_ofNat]
  exact ⟨encodePacket s.params therm vals, rfl, h.length_eq, h.marker, h.thermLo, h.thermHi,
    fun k => ⟨h.valueLo k, h.valueHi k⟩, h.checksum_eq⟩

/-- Settles O32: each row emits its byte, and the block's two control bytes differ. -/
theorem controlBytesGoOut : Obligations.ControlBytesGoOut :=
  ⟨fun _ => ⟨rfl, rfl⟩, params_legal⟩

end Sys2Proof.Machine
end

section
/-! THEOREMS. The selection table (30_encoding.md R65, R66) and the decoder it makes up with the wire formats: selection
answers exactly the rows, and decoding inverts encoding. Also what is refused because R65 has no row for it
(93_implementation_defined.md X2) or because the pipeline cannot run (X3, X4, X6). -/

namespace Sys2Proof.Machine

/-! ### Selection -/

/-- Outside `RUN` every byte is dropped (R65, R124). -/
theorem selectRx_of_not_run (p : Params) {q : SeqTuple} (b : Byte) (h : q.runstate ≠ .run) :
    selectRx p q b = .ok (.rxDrop b) := by
  cases hr : q.runstate with
  | run => exact absurd hr h
  | idle | stopped | halted => simp only [selectRx, hr]

/-- What selection answers for a byte is a row of R65's first table that holds, and the byte carries it. -/
theorem selectedAt_of_selectRx {p : Params} {q : SeqTuple} {b : Byte} {i : Instr} (h : selectRx p q b = .ok i) :
    i.selectedAt p q = true ∧ i.event? = some (.rx b) := by
  by_cases hr : q.runstate = .run
  case neg =>
    rw [selectRx_of_not_run p b hr] at h
    cases h
    exact ⟨by simpa [Instr.selectedAt] using hr, rfl⟩
  simp only [selectRx, hr] at h
  cases hp : q.phase with
  | hunt =>
    simp only [hp] at h
    split_ifs at h with hf hs hb hs <;> cases h <;> refine ⟨?_, rfl⟩
    · simp [Instr.selectedAt, hr, hp, not_not.1 hf, hs, hb]
    · simp [Instr.selectedAt, hr, hp, not_not.1 hf, hs, hb]
    · simp [Instr.selectedAt, hr, hp, not_not.1 hf, BitVec.toNat_eq, hs]
  | confirm =>
    simp only [hp] at h
    split_ifs at h with hf hs hs hf hs <;> cases h <;> refine ⟨?_, rfl⟩
    · simp [Instr.selectedAt, hr, hp, hf, hs]
    · simp [Instr.selectedAt, hr, hp, hf, BitVec.toNat_eq, hs]
    · simp [Instr.selectedAt, hr, hp, hf, hs]
  | therm | array | csum =>
    simp only [hp] at h
    split_ifs at h with hf
    cases h
    exact ⟨by simp [Instr.selectedAt, hr, hp, hf], rfl⟩

/-- What selection answers is a row of R65 that holds, and the event carries it. -/
theorem selectedAt_of_select {p : Params} {q : SeqTuple} {e : Event} {i : Instr} (h : select p q e = .ok i) :
    i.selectedAt p q = true ∧ i.event? = some e := by
  cases e with
  | rx b => exact selectedAt_of_selectRx h
  | cfgWr w =>
    cases h
    cases w <;> exact ⟨rfl, rfl⟩
  | reset | start | stop | linkFail =>
    cases h
    exact ⟨rfl, rfl⟩

/-- In a state where a row of R65 holds, the event that carries the row selects it. -/
theorem select_of_selectedAt {p : Params} {q : SeqTuple} {e : Event} {i : Instr} (hrow : i.selectedAt p q = true)
    (hcarrier : i.event? = some e) : select p q e = .ok i := by
  cases i with
  | rxDrop b =>
    cases hcarrier
    exact selectRx_of_not_run p b (by simpa [Instr.selectedAt] using hrow)
  | syncSkip b | syncFirst b | syncWindowHunt b | syncConf1 b | syncWindowConfirm b | syncConf2 b | rdTherm b | rdArray b
  | rdCsum b =>
    cases hcarrier
    simp only [Instr.selectedAt, Bool.and_eq_true, beq_iff_eq, bne_iff_ne, decide_eq_true_eq, and_assoc] at hrow
    simp [select, selectRx, hrow]
  | cmdStart | cmdStop | reset | linkFail | cfgWrN | cfgWrOccEnter | cfgWrOccExit | cfgWrMotEnter | cfgWrMotExit
  | cfgWrIterLimit | cfgWrTrig =>
    cases hcarrier
    rfl
  | pktReject | pktAccept | pipeRun | decFrame | accAdd | accEmit | occUpd | motFirst | motUpd | frameOut | trigChk
  | iterEnd | packet | ctlStart | ctlStop => cases hcarrier

/-- Settles O36: both directions of R65. -/
theorem selectionIsTheTable : Obligations.SelectionIsTheTable :=
  fun _ _ _ _ => ⟨selectedAt_of_select, fun ⟨hrow, hcarrier⟩ => select_of_selectedAt hrow hcarrier⟩

/-! ### Decode and encode -/

/-- A sequencing state at the start of the range in which the row's selectors hold (R65); reset's for the rows that every
state selects. -/
def rowState : Instr → SeqTuple
  | .syncSkip _ | .syncFirst _ => ⟨.run, .hunt, 0, 0⟩
  | .syncWindowHunt _ => ⟨.run, .hunt, 0, 133⟩
  | .syncConf1 _ => ⟨.run, .confirm, 0, 1⟩
  | .syncWindowConfirm _ => ⟨.run, .confirm, 0, 133⟩
  | .syncConf2 _ => ⟨.run, .confirm, 1, 2⟩
  | .rdTherm _ => ⟨.run, .therm, 0, 3⟩
  | .rdArray _ => ⟨.run, .array, 0, 3⟩
  | .rdCsum _ => ⟨.run, .csum, 0, 3⟩
  | _ => State.reset.seq

/-- Every well-formed row that has an encoding is selected somewhere. -/
theorem selectedAt_rowState {p : Params} {i : Instr} {c : Carrier} (hwf : i.wellFormed p = true)
    (henc : encode p i = some c) : i.selectedAt p (rowState i) = true := by
  cases i with
  | syncSkip b => exact hwf
  | syncFirst b => exact hwf
  | syncWindowHunt | syncConf1 | syncWindowConfirm | syncConf2 | rdTherm | rdArray | rdCsum | rxDrop => rfl
  | cmdStart | cmdStop | reset | linkFail | cfgWrN | cfgWrOccEnter | cfgWrOccExit | cfgWrMotEnter | cfgWrMotExit
  | cfgWrIterLimit | cfgWrTrig => rfl
  | packet | ctlStart | ctlStop => rfl
  | pktReject | pktAccept | pipeRun | decFrame | accAdd | accEmit | occUpd | motFirst | motUpd | frameOut | trigChk
  | iterEnd => cases henc

/-- An encoded row is carried by its event, or else by its bytes (R66). -/
theorem carrier_of_encode {p : Params} {i : Instr} {c : Carrier} (h : encode p i = some c) :
    (∃ e, i.event? = some e ∧ c = .event e) ∨ ∃ bytes, i.bytes? p = some bytes ∧ c = .wire bytes := by
  unfold encode at h
  split at h <;> cases h
  · exact .inl ⟨_, ‹_›, rfl⟩
  · exact .inr ⟨_, ‹_›, rfl⟩

/-- A sequence of a packet's length is read as a packet. -/
theorem decodeWire_of_length {p : Params} {bytes : List Byte} (h : bytes.length = 134) :
    decodeWire p bytes = decodePacket p bytes := by
  unfold decodeWire
  split
  · cases h
  · rfl

/-- The wire decoder gives back each wire row from its bytes (R61, R64). -/
theorem decodeWire_of_bytes {p : Params} {i : Instr} {bytes : List Byte} (hp : p.legal) (h : i.bytes? p = some bytes) :
    decodeWire p bytes = .ok i := by
  cases i with
  | packet therm vals =>
    cases h
    have hpacket := isPacketOf_encodePacket p therm vals
    rw [decodeWire_of_length hpacket.length_eq, hpacket.decodePacket_eq]
  | ctlStart =>
    cases h
    exact if_pos rfl
  | ctlStop =>
    cases h
    exact (if_neg hp.symm).trans (if_pos rfl)
  | _ => cases h

/-- Settles O37: an event's row by R65, a wire row by its format. -/
theorem decodeOfEncodeIsTheInstruction : Obligations.DecodeOfEncodeIsTheInstruction := by
  intro p i c hp hwf henc
  refine ⟨fun q hrow => ?_, rowState i, selectedAt_rowState hwf henc⟩
  obtain ⟨e, hcarrier, rfl⟩ | ⟨bytes, hbytes, rfl⟩ := carrier_of_encode henc
  · exact select_of_selectedAt hrow hcarrier
  · exact decodeWire_of_bytes hp hbytes

/-- Settles O2: the events by R65's rows, the words and the control bytes by their formats. -/
theorem sampleWordsDecodeRight : Obligations.SampleWordsDecodeRight := by
  refine ⟨by decide, by decide, by decide, select_of_selectedAt ?_ rfl, select_of_selectedAt ?_ rfl,
    select_of_selectedAt ?_ rfl, decodeWire_of_bytes ?_ rfl, decodeWire_of_bytes ?_ rfl, by decide⟩ <;> decide

/-! ### What is refused -/

/-- An event that selects nothing is refused (93_implementation_defined.md X2). -/
theorem step_of_unselected {s : State} {e : Event} {rest : List Event} (hin : s.inbox = e :: rest)
    (hsel : ∀ i, select s.params s.seq e ≠ .ok i) : step s = .refused .unreachableSelection := by
  cases h : select s.params s.seq e with
  | ok i => exact absurd h (hsel i)
  | error r => simp only [step, hin, h]

/-- The pipeline's guard on an illegal configuration (X4). -/
theorem runPipeline_of_illegal {s : State} (h : cfgLegal s.cfg = false) :
    runPipeline s = .refused .illegalConfiguration := if_pos h

/-- The pipeline's guard on a window that is already complete (X3). -/
theorem runPipeline_of_overrun {s : State} (hcfg : cfgLegal s.cfg = true) (h : s.cfg.n.toNat ≤ s.samples.toNat) :
    runPipeline s = .refused .windowOverrun := by
  rw [runPipeline, if_neg (by simp [hcfg]), if_pos h]

/-- The pipeline's guard on motion without a previous frame (X6). -/
theorem runPipeline_of_motion {s : State} (hcfg : cfgLegal s.cfg = true) (hn : s.samples.toNat < s.cfg.n.toNat)
    (hmot : s.mot = true) (hprev : s.prevvalid = false) : runPipeline s = .refused .motionWithoutPrevious := by
  rw [runPipeline, if_neg (by simp [hcfg]), if_neg (Nat.not_le.2 hn), if_pos ⟨hmot, hprev⟩]

/-- Settles O35: the step's refusal, the reader's two and the pipeline's three. -/
theorem unreachableStatesAreRefused : Obligations.UnreachableStatesAreRefused :=
  ⟨fun _ _ _ => step_of_unselected, fun _ _ h => dif_neg (Nat.not_lt.2 h), fun _ _ h => dif_neg (Nat.not_lt.2 h),
    fun _ => runPipeline_of_illegal, fun _ => runPipeline_of_overrun, fun _ => runPipeline_of_motion⟩

end Sys2Proof.Machine
end

section
/-! THEOREMS. The trace items (30_encoding.md R69, R70, as data: log 12): each reader of a field accepts exactly what fits
and refuses the rest by name, and each item expands to the events it stands for. -/

namespace Sys2Proof.Machine

/-! ### Fields -/

@[simp] theorem natField_toNat {w : Nat} (b : BitVec w) : natField w b.toNat = .ok b := by
  rw [natField, if_pos b.isLt, BitVec.ofNat_toNat, BitVec.setWidth_eq]

theorem natField_too_wide {w v : Nat} (h : 2 ^ w ≤ v) : natField w v = .error .valueTooWide := if_neg (Nat.not_lt.2 h)

theorem natField_error {w v : Nat} {r : DecodeRefusal} (h : natField w v = .error r) : r = .valueTooWide := by
  unfold natField at h
  split at h <;> cases h
  rfl

@[simp] theorem bitField_toNat (b : Bool) : bitField b.toNat = .ok b := by
  cases b <;> rfl

theorem bitField_too_wide {v : Nat} (h : 1 < v) : bitField v = .error .valueTooWide := by
  rw [bitField, if_neg (by omega), if_neg (by omega)]

theorem bitField_error {v : Nat} {r : DecodeRefusal} (h : bitField v = .error r) : r = .valueTooWide := by
  unfold bitField at h
  split_ifs at h
  cases h
  rfl

@[simp] theorem halfField_toInt (v : Half) : halfField v.toInt = .ok v := by
  have hlow := BitVec.le_toInt v
  have hhigh := BitVec.toInt_lt (x := v)
  rw [halfField, if_pos (by omega), BitVec.ofInt_toInt]

theorem halfField_too_wide {v : Int} (h : v < -32768 ∨ 32767 < v) : halfField v = .error .valueTooWide :=
  if_neg (by omega)

theorem halfField_error {v : Int} {r : DecodeRefusal} (h : halfField v = .error r) : r = .valueTooWide := by
  unfold halfField at h
  split at h <;> cases h
  rfl

/-! ### Lists of fields -/

section Fields

variable {α β : Type} {f : α → Except DecodeRefusal β}

/-- A list of values that are all read back. -/
theorem fields_map {g : β → α} (h : ∀ y, f (g y) = .ok y) (ys : List β) : fields f (ys.map g) = .ok ys := by
  induction ys with
  | nil => rfl
  | cons y ys ih => simp only [List.map_cons, fields, h, ih]

/-- One refused field refuses the list, for the reason all refusals of this reader have. -/
theorem fields_error {r : DecodeRefusal} (hreason : ∀ x r', f x = .error r' → r' = r) {xs : List α} {x : α} (hx : x ∈ xs)
    (h : f x = .error r) : fields f xs = .error r := by
  induction xs with
  | nil => cases hx
  | cons y ys ih =>
    simp only [fields]
    cases hy : f y with
    | error r' => rw [hreason y r' hy]
    | ok z =>
      obtain rfl | hys := List.mem_cons.1 hx
      · rw [h] at hy
        cases hy
      · simp only [ih hys]

end Fields

/-! ### The fields of a packet item -/

/-- The 64 array values of a packet are read back. -/
theorem valuesField_toInt (vals : Vector Half 64) : valuesField (vals.toList.map BitVec.toInt) = .ok vals := by
  simp only [valuesField, fields_map halfField_toInt]
  rw [dif_pos (Vector.length_toList)]
  rfl

theorem valuesField_wrongShape {v : List Half} (h : v.length ≠ 64) :
    valuesField (v.map BitVec.toInt) = .error .wrongShape := by
  simp only [valuesField, fields_map halfField_toInt, dif_neg h]

theorem valuesField_too_wide {v : List Int} {t : Int} (ht : t < -32768 ∨ 32767 < t) (hmem : t ∈ v) :
    valuesField v = .error .valueTooWide := by
  have h := fields_error (f := halfField) (fun _ _ => halfField_error) hmem (halfField_too_wide ht)
  simp only [valuesField, h]

theorem wireOrder_of_shape {rows : List (List Int)} (hrows : rows.length = 8) (hrow : ∀ row ∈ rows, row.length = 8) :
    wireOrder rows = .ok (rows.flatMap List.reverse) :=
  if_pos ⟨hrows, List.all_eq_true.2 fun row hmem => beq_iff_eq.2 (hrow row hmem)⟩

theorem wireOrder_wrongShape {rows : List (List Int)} (h : rows.length ≠ 8 ∨ ∃ row ∈ rows, row.length ≠ 8) :
    wireOrder rows = .error .wrongShape := by
  refine if_neg fun ⟨hrows, hall⟩ => ?_
  obtain hlen | ⟨row, hmem, hlen⟩ := h
  · exact hlen hrows
  · exact hlen (beq_iff_eq.1 (List.all_eq_true.1 hall row hmem))

/-- A row of a written grid, reversed: the array values of the row (R63). -/
theorem reverse_map_finRange (g : Fin 8 → Int) :
    ((List.finRange 8).map g).reverse = List.ofFn fun c : Fin 8 => g (Fin.rev c) := by
  rw [← List.map_reverse, List.finRange_reverse, List.map_map, List.ofFn_eq_map]
  rfl

/-- `PKTF` (R70): a written frame in wire order is the list of the array values it stands for. -/
theorem wireOrder_writtenGrid {f : Frame} {vals : Vector Half 64}
    (h : ∀ r c : Fin 8, vals[8 * r.val + 7 - c.val] = f.cell r c) :
    wireOrder (writtenGrid f) = .ok (vals.toList.map BitVec.toInt) := by
  have hvals : vals.toList.map BitVec.toInt = List.ofFn fun k : Fin (8 * 8) => vals[k.val].toInt := by
    conv_lhs => rw [← Vector.ofFn_getElem (xs := vals), Vector.toList_ofFn, List.map_ofFn]
    rfl
  have hrow (r : Fin 8) : ((List.finRange 8).map fun c => (f.cell r c).toInt).reverse =
      List.ofFn fun c : Fin 8 => vals[r.val * 8 + c.val].toInt := by
    rw [reverse_map_finRange]
    congr 1
    funext c
    rw [← h r c.rev]
    congr 2
    simp only [Fin.val_rev]
    omega
  rw [wireOrder_of_shape (by simp [writtenGrid]) (by simp [writtenGrid]), hvals, List.ofFn_mul]
  simp only [writtenGrid, List.flatMap_def, List.map_map, Function.comp_def, hrow]
  rw [List.ofFn_eq_map]

/-- A thermistor value that is too wide refuses the packet first. -/
theorem packetFields_therm_too_wide {t : Int} (h : t < -32768 ∨ 32767 < t) (x : Int) (v : List Int)
    (rows : List (List Int)) :
    packetFields (.pkt t v) = .error .valueTooWide ∧ packetFields (.pktC t x) = .error .valueTooWide ∧
      packetFields (.pktF t rows) = .error .valueTooWide := by
  simp only [packetFields, halfField_too_wide h, and_self]

/-- Array values that are too wide refuse the packet, whatever its thermistor value. -/
theorem packetFields_values_too_wide (x : Int) :
    (∀ v, valuesField v = .error .valueTooWide → packetFields (.pkt x v) = .error .valueTooWide) ∧
    (∀ v, halfField v = .error .valueTooWide → packetFields (.pktC x v) = .error .valueTooWide) ∧
    (∀ rows v, wireOrder rows = .ok v → valuesField v = .error .valueTooWide →
      packetFields (.pktF x rows) = .error .valueTooWide) := by
  cases hx : halfField x with
  | ok therm =>
    exact ⟨fun v hv => by simp only [packetFields, hx, hv], fun v hv => by simp only [packetFields, hx, hv],
      fun rows v hrows hv => by simp only [packetFields, hx, hrows, hv]⟩
  | error r =>
    cases halfField_error hx
    simp only [packetFields, hx, implies_true, and_self]

/-! ### `BAD` on bytes -/

/-- `BAD` changes the last byte only (R70). -/
theorem complementLast_eq_set (bytes : List Byte) {n : Nat} (h : bytes.length = n + 1) :
    complementLast bytes = bytes.set n (byteAt bytes n ^^^ 0xFF) := by
  induction bytes generalizing n with
  | nil => cases h
  | cons b bs ih =>
    cases n with
    | zero =>
      obtain rfl : bs = [] := List.length_eq_zero_iff.1 (Nat.succ.inj h)
      exact congrArg (· :: []) BitVec.xor_allOnes.symm
    | succ n =>
      obtain ⟨c, cs, rfl⟩ := List.exists_cons_of_length_eq_add_one (Nat.succ.inj h)
      exact congrArg (b :: ·) (ih (Nat.succ.inj h))

/-! ### Items -/

section Items

variable {p : Params} {k : PacketItem}

theorem expandItem_packet_of_ok {therm : Half} {vals : Vector Half 64} (h : packetFields k = .ok (therm, vals)) :
    expandItem p (.packet k) = .ok ((encodePacket p therm vals).map .rx) ∧
      expandItem p (.bad k) = .ok ((complementLast (encodePacket p therm vals)).map .rx) := by
  simp only [expandItem, h]
  exact ⟨rfl, rfl⟩

theorem expandItem_packet_of_error {r : DecodeRefusal} (h : packetFields k = .error r) :
    expandItem p (.packet k) = .error r ∧ expandItem p (.bad k) = .error r := by
  simp only [expandItem, h]
  exact ⟨rfl, rfl⟩

/-- `BAD` complements the checksum byte of the packet it names. -/
theorem expandItem_bad_of_packet {bytes : List Byte} (h : expandItem p (.packet k) = .ok (bytes.map .rx)) :
    bytes.length = 134 ∧
      expandItem p (.bad k) = .ok ((bytes.set 133 (byteAt bytes 133 ^^^ 0xFF)).map .rx) := by
  cases hk : packetFields k with
  | error r =>
    rw [(expandItem_packet_of_error hk).1] at h
    cases h
  | ok values =>
    obtain ⟨therm, vals⟩ := values
    obtain ⟨hpacket, hbad⟩ := expandItem_packet_of_ok (p := p) hk
    rw [hpacket] at h
    have hinj : Function.Injective Event.rx := fun _ _ => Event.rx.inj
    obtain rfl := List.map_injective_iff.2 hinj (Except.ok.inj h)
    have hlen := length_encodePacket p therm vals
    exact ⟨hlen, by rw [hbad, complementLast_eq_set _ hlen]⟩

/-- `BAD` of a packet is refused as the packet is. -/
theorem expandItem_bad_of_error {r : DecodeRefusal} (h : expandItem p (.packet k) = .error r) :
    expandItem p (.bad k) = .error r := by
  cases hk : packetFields k with
  | error r' =>
    obtain ⟨hpacket, hbad⟩ := expandItem_packet_of_error (p := p) hk
    rw [hbad, ← hpacket, h]
  | ok values =>
    rw [(expandItem_packet_of_ok hk).1] at h
    cases h

end Items

theorem expandItem_rx (p : Params) (bytes : List Byte) :
    expandItem p (.rx (bytes.map BitVec.toNat)) = .ok (bytes.map .rx) := by
  simp only [expandItem, fields_map natField_toNat]
  rfl

/-- The item that writes an event down expands to it (R70). -/
theorem expandItem_itemOfEvent (p : Params) (e : Event) : expandItem p (itemOfEvent e) = .ok [e] := by
  cases e with
  | reset | start | stop => rfl
  | rx b => exact expandItem_rx p [b]
  | linkFail x =>
    simp only [itemOfEvent, expandItem, bitField_toNat]
    rfl
  | cfgWr w =>
    cases w with
    | n v | occEnter v | occExit v | motEnter v | motExit v | iterLimit v =>
      simp only [itemOfEvent, expandItem, cfgField, natField_toNat]
      rfl
    | trig i valid count =>
      simp only [itemOfEvent, expandItem, trigField, dif_pos i.isLt, bitField_toNat, natField_toNat]
      rfl

theorem trigField_too_wide {i v c : Nat} (hi : i ≤ 7) (h : 1 < v ∨ 2 ^ 32 ≤ c) :
    trigField i v c = .error .valueTooWide := by
  rw [trigField, dif_pos (Nat.lt_succ_of_le hi)]
  cases hv : bitField v with
  | error r =>
    cases bitField_error hv
    rfl
  | ok valid =>
    obtain hwide | hwide := h
    · rw [bitField_too_wide hwide] at hv
      cases hv
    · rw [natField_too_wide hwide]

theorem cfgField_too_wide {reg : RegName} {v : Nat} (h : (if reg = .cfgIterLimit then 2 ^ 32 else 2 ^ 16) ≤ v) :
    cfgField reg v = .error .valueTooWide := by
  cases reg with
  | cfgIterLimit => exact congrArg (Except.map CfgWrite.iterLimit) (natField_too_wide h)
  | cfgN | cfgOccEnter | cfgOccExit | cfgMotEnter | cfgMotExit => exact congrArg (Except.map _) (natField_too_wide h)

/-- A thermistor value, an array value or a cell that is too wide refuses its packet. -/
theorem expandItem_packet_too_wide (p : Params) {t : Int} (ht : t < -32768 ∨ 32767 < t) (x : Int) (v : List Int)
    (rows : List (List Int)) :
    expandItem p (.packet (.pkt t v)) = .error .valueTooWide ∧
    expandItem p (.packet (.pktC t x)) = .error .valueTooWide ∧
    expandItem p (.packet (.pktF t rows)) = .error .valueTooWide ∧
    expandItem p (.packet (.pktC x t)) = .error .valueTooWide ∧
    (t ∈ v → expandItem p (.packet (.pkt x v)) = .error .valueTooWide) ∧
    (rows.length = 8 → (∀ row ∈ rows, row.length = 8) → t ∈ rows.flatten →
      expandItem p (.packet (.pktF x rows)) = .error .valueTooWide) := by
  obtain ⟨hpkt, hpktC, hpktF⟩ := packetFields_therm_too_wide ht x v rows
  obtain ⟨hvalues, hvalue, hcells⟩ := packetFields_values_too_wide x
  have refused {k : PacketItem} (h : packetFields k = .error .valueTooWide) :
      expandItem p (.packet k) = .error .valueTooWide := (expandItem_packet_of_error h).1
  refine ⟨refused hpkt, refused hpktC, refused hpktF, refused (hvalue t (halfField_too_wide ht)),
    fun hmem => refused (hvalues v (valuesField_too_wide ht hmem)), fun hrows hrow hmem => ?_⟩
  have hwire : t ∈ rows.flatMap List.reverse := by simpa using hmem
  exact refused (hcells rows _ (wireOrder_of_shape hrows hrow) (valuesField_too_wide ht hwire))

/-- Settles O3: an event's item, the byte items, the three packet items and `BAD`, then the refusals. -/
theorem traceItemsWriteEventsDown : Obligations.TraceItemsWriteEventsDown := by
  intro p
  refine ⟨expandItem_itemOfEvent p, expandItem_rx p, fun therm vals => ?pkt, fun therm v => ?pktC,
    fun therm f vals hf => ?pktF, fun k bytes => expandItem_bad_of_packet, fun n b => ?junk, fun i v c hi => ?slot,
    fun i v c hi hwide => ?trig, fun reg v hwide => ?cfg, fun bytes ⟨b, hmem, hwide⟩ => ?rx, fun n x hwide => ?junkWide,
    fun t hwide => ?linkFail, fun t x v rows ht => expandItem_packet_too_wide p ht x v rows, fun therm v hlen => ?pktShape,
    fun therm rows hshape => ?pktFShape, fun k r => expandItem_bad_of_error⟩
  case pkt =>
    exact (expandItem_packet_of_ok (by simp only [packetFields, halfField_toInt, valuesField_toInt])).1
  case pktC =>
    exact (expandItem_packet_of_ok (by simp only [packetFields, halfField_toInt])).1
  case pktF =>
    exact (expandItem_packet_of_ok
      (by simp only [packetFields, halfField_toInt, wireOrder_writtenGrid hf, valuesField_toInt])).1
  case junk =>
    simp only [expandItem, natField_toNat, Except.map, rxEvents, List.map_replicate]
  case slot =>
    simp only [expandItem, trigField, dif_neg (Nat.not_lt.2 hi), Except.map]
  case trig =>
    simp only [expandItem, trigField_too_wide hi hwide, Except.map]
  case cfg =>
    simp only [expandItem, cfgField_too_wide hwide, Except.map]
  case rx =>
    have h := fields_error (f := natField 8) (fun _ _ => natField_error) hmem (natField_too_wide hwide)
    simp only [expandItem, h, Except.map]
  case junkWide =>
    simp only [expandItem, natField_too_wide (w := 8) hwide, Except.map]
  case linkFail =>
    simp only [expandItem, bitField_too_wide hwide, Except.map]
  case pktShape =>
    exact (expandItem_packet_of_error (by simp only [packetFields, halfField_toInt, valuesField_wrongShape hlen])).1
  case pktFShape =>
    exact (expandItem_packet_of_error (by simp only [packetFields, halfField_toInt, wireOrder_wrongShape hshape])).1

end Sys2Proof.Machine
end

section
/-! THEOREMS. The synchronizer (40_sync.md R80 to R86): what each of its operations does where R65 selects it, and what an
attempt comes to as a function of the bytes it sees. -/

namespace Sys2Proof.Machine

/-! ### The operations (40_sync.md R81 to R85) -/

/-- Settles O4: the row of `SYNC.SKIP`, and its count inside the window. -/
theorem syncSkipCountsTheByte : Obligations.SyncSkipCountsTheByte :=
  fun s b hrun hphase hfidx hscan hb =>
    ⟨select_of_selectedAt (by simp [Instr.selectedAt, State.seq, hrun, hphase, hfidx, hscan, hb]) rfl, rfl,
      toNat_scancnt_succ (by omega)⟩

/-- Settles O5: the row of `SYNC.FIRST`, and its count inside the window. -/
theorem syncFirstEntersConfirm : Obligations.SyncFirstEntersConfirm :=
  fun s b hrun hphase hfidx hscan hb =>
    ⟨select_of_selectedAt (by simp [Instr.selectedAt, State.seq, hrun, hphase, hfidx, hscan, hb]) rfl, rfl,
      toNat_scancnt_succ (by omega)⟩

/-- Settles O6: the row of `SYNC.CONF1`, and its count inside the window. -/
theorem syncConf1RecordsTheComparison : Obligations.SyncConf1RecordsTheComparison :=
  fun s b hrun hphase hfidx hlow hhigh =>
    ⟨select_of_selectedAt (by simp [Instr.selectedAt, State.seq, hrun, hphase, hfidx, hlow, hhigh]) rfl, rfl,
      toNat_scancnt_succ (by omega)⟩

/-- `SYNC.CONF2` by its verdict: the failed attempt's count is gone with the iteration (R84, R127). -/
theorem exec_syncConf2 (b : Byte) (s : State) :
    exec (.syncConf2 b) s =
      if s.confok = true ∧ b = s.params.marker then
        .next { s with scancnt := s.scancnt + 1, phase := .therm, fidx := 0, csumacc := 0 }
      else .next (afterIteration s [.err 1 1]) := by
  rw [← raise_syncConfirm_countScan]
  rfl

/-- Settles O7: the row of `SYNC.CONF2`, its verdict, and its count inside the window. -/
theorem syncConf2GivesTheVerdict : Obligations.SyncConf2GivesTheVerdict :=
  fun s b hrun hphase hfidx hlow hhigh =>
    ⟨select_of_selectedAt (by simp [Instr.selectedAt, State.seq, hrun, hphase, hfidx, hlow, hhigh]) rfl,
      exec_syncConf2 b s, toNat_scancnt_succ hhigh⟩

/-- Settles O8: the two rows of `SYNC.WINDOW`, which are one operation. -/
theorem syncWindowFailsTheAttempt : Obligations.SyncWindowFailsTheAttempt := by
  intro s b hrun hscan hfidx
  have hfails : execSyncWindowHunt b s = .next (afterIteration s [.err 1 0]) := by
    rw [execSyncWindowHunt, exhaustWindow_eq]
  constructor
  · intro hphase
    exact ⟨select_of_selectedAt (by simp [Instr.selectedAt, State.seq, hrun, hphase, hfidx, hscan]) rfl, hfails⟩
  · intro hphase
    exact ⟨select_of_selectedAt (by simp [Instr.selectedAt, State.seq, hrun, hphase, hfidx, hscan]) rfl, hfails⟩

/-! ### An attempt under way: the states between its bytes -/

/-- `s` with `n` bytes of the attempt consumed and `waiting` still to come. -/
def attemptAt (s : State) (n : Nat) (waiting : List Event) : State :=
  { s with scancnt := BitVec.ofNat 8 n, inbox := waiting }

/-- The attempt's last byte was its first marker byte (R82). -/
def markerSeen (s : State) (n : Nat) (waiting : List Event) : State :=
  { attemptAt s n waiting with phase := .confirm, fidx := 0 }

/-- The attempt's last byte was the one after its first marker byte, and `ok` says whether it was `MARKER` (R83). -/
def verdictDue (s : State) (n : Nat) (ok : Bool) (waiting : List Event) : State :=
  { attemptAt s n waiting with phase := .confirm, fidx := 1, confok := ok }

/-- Before its first byte an attempt has consumed none. -/
theorem attemptAt_zero {s : State} {waiting : List Event} (hscan : s.scancnt = 0) (hin : s.inbox = waiting) :
    attemptAt s 0 waiting = s := by
  obtain ⟨⟩ := s
  cases hscan
  cases hin
  rfl

/-- Counting a byte of the attempt. -/
theorem countScan_attemptAt (s : State) (n : Nat) (waiting : List Event) :
    countScan (attemptAt s n waiting) = attemptAt s (n + 1) waiting := by
  simp only [countScan, attemptAt, BitVec.ofNat_add]
  rfl

/-- Inside the window `SCANCNT` is the number of bytes consumed (10_state.md R13). -/
theorem toNat_scancnt {n : Nat} (hn : n ≤ 133) : (BitVec.ofNat 8 n).toNat = n := by
  rw [BitVec.toNat_ofNat, Nat.mod_eq_of_lt (by omega)]

section

variable {s : State} (hrun : s.runstate = .run) {n : Nat} (waiting : List Event)

include hrun

/-- A byte other than `MARKER` before the first marker byte (R81). -/
theorem step_skip (hphase : s.phase = .hunt) (hfidx : s.fidx = 0) (hn : n ≤ 132) {b : Byte}
    (hb : b ≠ s.params.marker) :
    step (attemptAt s n (.rx b :: waiting)) = .next (attemptAt s (n + 1) waiting) := by
  have hscan : (BitVec.ofNat 8 n).toNat ≤ 132 := by rwa [toNat_scancnt (by omega)]
  rw [← countScan_attemptAt]
  exact (step_eq_next_iff rfl).2 (.skipped b hrun hphase hfidx hscan hb)

/-- The first marker byte (R82). -/
theorem step_marker (hphase : s.phase = .hunt) (hfidx : s.fidx = 0) (hn : n ≤ 132) :
    step (attemptAt s n (.rx s.params.marker :: waiting)) = .next (markerSeen s (n + 1) waiting) := by
  have hscan : (BitVec.ofNat 8 n).toNat ≤ 132 := by rwa [toNat_scancnt (by omega)]
  rw [markerSeen, ← countScan_attemptAt]
  exact (step_eq_next_iff rfl).2 (.firstSeen _ hrun hphase hfidx hscan rfl)

/-- The byte after the first marker byte, where the window has room for one more (R83). -/
theorem step_compare (hlow : 1 ≤ n) (hhigh : n ≤ 132) (x : Byte) :
    step (markerSeen s n (.rx x :: waiting)) = .next (verdictDue s (n + 1) (x == s.params.marker) waiting) := by
  have hscan : (BitVec.ofNat 8 n).toNat = n := toNat_scancnt (by omega)
  rw [verdictDue, ← countScan_attemptAt]
  exact (step_eq_next_iff rfl).2 (.compared x hrun rfl rfl (hlow.trans_eq hscan.symm) (hscan.trans_le hhigh))

/-- The verdict: synchronized (R84). -/
theorem step_synchronized (hlow : 2 ≤ n) (hhigh : n ≤ 133) {ok : Bool} {y : Byte}
    (hverdict : ok = true ∧ y = s.params.marker) :
    step (verdictDue s n ok (.rx y :: waiting)) =
      .next { s with inbox := waiting, phase := .therm, fidx := 0, scancnt := BitVec.ofNat 8 (n + 1), confok := true,
                     csumacc := 0 } := by
  obtain ⟨rfl, hy⟩ := hverdict
  have hscan : (BitVec.ofNat 8 n).toNat = n := toNat_scancnt hhigh
  rw [BitVec.ofNat_add]
  exact (step_eq_next_iff rfl).2
    (.synchronized y hrun rfl rfl (hlow.trans_eq hscan.symm) (hscan.trans_le hhigh) ⟨rfl, hy⟩)

/-- The verdict: not confirmed (R84). -/
theorem step_notConfirmed (hlow : 2 ≤ n) (hhigh : n ≤ 133) {ok : Bool} {y : Byte}
    (hverdict : ¬ (ok = true ∧ y = s.params.marker)) :
    step (verdictDue s n ok (.rx y :: waiting)) = .next (afterIteration { s with inbox := waiting } [.err 1 1]) := by
  have hscan : (BitVec.ofNat 8 n).toNat = n := toNat_scancnt hhigh
  exact (step_eq_next_iff rfl).2
    (.notConfirmed y hrun rfl rfl (hlow.trans_eq hscan.symm) (hscan.trans_le hhigh) hverdict)

variable (hphase : s.phase = .hunt) (hfidx : s.fidx = 0)

include hphase hfidx

/-- The window's last byte, whatever it is (R85). -/
theorem step_window {t : State} {b : Byte}
    (ht : t = attemptAt s 133 (.rx b :: waiting) ∨ t = markerSeen s 133 (.rx b :: waiting)) :
    step t = .next (afterIteration { s with inbox := waiting } [.err 1 0]) := by
  rcases ht with rfl | rfl
  · exact (step_eq_next_iff rfl).2 (.windowExhausted b hrun (.inl hphase) hfidx rfl)
  · exact (step_eq_next_iff rfl).2 (.windowExhausted b hrun (.inr rfl) rfl rfl)

/-! ### The outcome of an attempt (40_sync.md R86) -/

/-- The bytes before the first marker byte are skipped one by one, as far as the window reaches. -/
theorem run_skips {pre : List Byte} (hpre : s.params.marker ∉ pre) :
    ∀ {n : Nat}, n + pre.length ≤ 133 →
      Host.Core.run core pre.length (attemptAt s n (rxEvents pre ++ waiting)) =
        .next (attemptAt s (n + pre.length) waiting) := by
  induction pre with
  | nil => exact fun _ => rfl
  | cons b pre ih =>
    intro n hn
    rw [List.length_cons] at hn
    obtain ⟨hb, hpre⟩ := not_or.1 (mt List.mem_cons.2 hpre)
    have hrest := ih hpre (n := n + 1) (by omega)
    rw [Nat.add_right_comm, Nat.add_assoc] at hrest
    exact (run_succ_of_next (step_skip hrun _ hphase hfidx (by omega) (Ne.symm hb)) _).trans hrest

/-- The attempt from its start: its first bytes are skipped while none is the marker byte. -/
theorem run_skips_from_start (hscan : s.scancnt = 0) {pre next : List Byte}
    (hin : s.inbox = rxEvents (pre ++ next) ++ waiting) (hpre : s.params.marker ∉ pre) (hlen : pre.length ≤ 133) :
    Host.Core.run core pre.length s = .next (attemptAt s pre.length (rxEvents next ++ waiting)) := by
  have hsplit : s.inbox = rxEvents pre ++ (rxEvents next ++ waiting) := by
    rw [hin, rxEvents, rxEvents, rxEvents, List.map_append, List.append_assoc]
  have hskips := run_skips hrun (rxEvents next ++ waiting) hphase hfidx hpre (n := 0) (by omega)
  rwa [attemptAt_zero hscan hsplit, Nat.zero_add] at hskips

/-- A first marker byte among the first 132 bytes: the attempt comes to its verdict, whatever byte follows. -/
theorem run_until_verdict (hscan : s.scancnt = 0) {pre : List Byte} {x y : Byte}
    (hin : s.inbox = rxEvents (pre ++ [s.params.marker, x, y]) ++ waiting) (hpre : s.params.marker ∉ pre)
    (hlen : pre.length ≤ 131) :
    Host.Core.run core (pre.length + 2) s =
      .next (verdictDue s (pre.length + 2) (x == s.params.marker) (.rx y :: waiting)) := by
  have hskips := run_skips_from_start hrun waiting hphase hfidx hscan hin hpre (by omega)
  have hmarker := step_marker hrun (.rx x :: .rx y :: waiting) hphase hfidx (n := pre.length) (by omega)
  have hcompare := step_compare hrun (.rx y :: waiting) (n := pre.length + 1) (by omega) (by omega) x
  exact (run_add_of_next hskips 2).trans ((run_succ_of_next hmarker 1).trans (run_succ_of_next hcompare 0))

/-- No marker byte among the first 132 bytes: the two bytes left in the window cannot succeed. -/
theorem run_exhausted (x y : Byte) :
    Host.Core.run core 2 (attemptAt s 132 (rxEvents [x, y] ++ waiting)) =
      .next (afterIteration { s with inbox := waiting } [.err 1 0]) := by
  obtain ⟨t, hstep, ht⟩ : ∃ t, step (attemptAt s 132 (.rx x :: .rx y :: waiting)) = .next t ∧
      (t = attemptAt s 133 (.rx y :: waiting) ∨ t = markerSeen s 133 (.rx y :: waiting)) := by
    by_cases hx : x = s.params.marker
    · subst hx
      exact ⟨_, step_marker hrun _ hphase hfidx (by omega), .inr rfl⟩
    · exact ⟨_, step_skip hrun _ hphase hfidx (by omega) hx, .inl rfl⟩
  exact (run_succ_of_next hstep 1).trans (run_succ_of_next (step_window hrun _ hphase hfidx ht) 0)

end

/-- Settles O57: the bytes before the first marker byte are skipped; then the two bytes after it decide, or the window
runs out. -/
theorem syncAttemptOutcome : Obligations.SyncAttemptOutcome := by
  intro s rest hrun hphase hfidx hscan
  refine ⟨fun pre hlen hpre hin => ?synchronized, fun pre x y hlen hpre hxy hin => ?notConfirmed,
    fun bytes hlen hpre hin => ?exhausted⟩
  case synchronized =>
    have hverdict := run_until_verdict hrun rest hphase hfidx hscan hin hpre hlen
    exact (run_add_of_next hverdict 1).trans
      (run_succ_of_next (step_synchronized hrun rest (by omega) (by omega) ⟨beq_self_eq_true _, rfl⟩) 0)
  case notConfirmed =>
    have hverdict := run_until_verdict hrun rest hphase hfidx hscan hin hpre hlen
    exact (run_add_of_next hverdict 1).trans
      (run_succ_of_next (step_notConfirmed hrun rest (by omega) (by omega) (by rwa [beq_iff_eq])) 0)
  case exhausted =>
    obtain ⟨x, y, hlast⟩ := List.length_eq_two.1 (show (bytes.drop 132).length = 2 by rw [List.length_drop, hlen])
    have htake : (bytes.take 132).length = 132 := List.length_take_of_le (by omega)
    rw [← List.take_append_drop 132 bytes, hlast] at hin
    have hskips := run_skips_from_start hrun rest hphase hfidx hscan hin hpre (by omega)
    rw [htake] at hskips
    exact (run_add_of_next hskips 2).trans (run_exhausted hrun rest hphase hfidx x y)

end Sys2Proof.Machine
end

section
/-! SUPPORT. The checksum (41_packet_checksum.md R96) as a sum of bytes in arithmetic modulo 256, the packet's fields in terms
of it, and what a packet's verdict leaves behind (R93 to R95). -/

namespace Sys2Proof

/-! ### The checksum as a sum modulo 256 -/

/-- Arithmetic modulo 256 is that of bytes, so the checksum is the sum of the bytes. -/
theorem checksum_eq_sum (d : List Byte) : checksum d = d.sum := by
  induction d with
  | nil => rfl
  | cons b d ih =>
    rw [List.sum_cons, ← ih]
    apply BitVec.eq_of_toNat_eq
    simp [checksum]

/-- The running checksum takes a byte into account as the checksum does (R91, R92, R96). -/
theorem checksum_concat (d : List Byte) (b : Byte) : checksum (d ++ [b]) = addCsum (checksum d) b := by
  simp [checksum_eq_sum, addCsum]

/-- R98's one idea: one changed summand changes a sum modulo 256. -/
theorem checksum_set_ne {d : List Byte} {i : Nat} (hi : i < d.length) {b : Byte} (hb : d[i] ≠ b) :
    checksum (d.set i b) ≠ checksum d := by
  rw [checksum_eq_sum, checksum_eq_sum, List.sum_set', dif_pos hi]
  intro h
  exact hb (neg_add_eq_zero.1 (add_eq_left.1 h))

/-! ### A packet with one byte replaced -/

/-- The checksum byte is the encoder's last. -/
theorem encodePacket_set_checksum (p : Params) (therm : Half) (vals : Vector Half 64) (b : Byte) :
    (encodePacket p therm vals).set 133 b = [p.marker, p.marker, p.marker] ++ encodeData therm vals ++ [b] := by
  rw [encodePacket, List.set_append_right _ _ (by simp)]
  simp

/-- Replacing a data byte of a packet replaces the byte of its data. -/
theorem packetData_encodePacket_set (p : Params) (therm : Half) (vals : Vector Half 64) {i : Nat} (b : Byte) :
    packetData ((encodePacket p therm vals).set (i + 3) b) = (encodeData therm vals).set i b := by
  rw [← packetData_encodePacket p therm vals]
  simp [packetData, Config.markerLen, List.drop_set, List.take_set]

/-- The checksum byte is no part of the data it covers. -/
theorem packetData_encodePacket_set_checksum (p : Params) (therm : Half) (vals : Vector Half 64) (b : Byte) :
    packetData ((encodePacket p therm vals).set 133 b) = encodeData therm vals := by
  rw [packetData_encodePacket_set p therm vals (i := 130) b, List.set_eq_of_length_le (by simp)]

/-- A sequence with the length and the markers of R61 whose last byte is not the checksum of its data. -/
theorem decodePacket_badChecksum {p : Params} {bytes : List Byte} (hlen : bytes.length = 134)
    (hmarker : bytes.take 3 = [p.marker, p.marker, p.marker]) (hcsum : byteAt bytes 133 ≠ checksum (packetData bytes)) :
    decodePacket p bytes = .error .badChecksum := by
  have hlen : ¬bytes.length ≠ Config.packetWidth := not_not.2 hlen
  have hmarker : ¬bytes.take Config.markerLen ≠ [p.marker, p.marker, p.marker] := not_not.2 hmarker
  rw [decodePacket, if_neg hlen, if_neg hmarker, if_pos hcsum]

/-! ### The payload in the buffer -/

/-- The 128 payload bytes of these array values, each low byte first (R61). -/
def payloadBytes (vals : Vector Half 64) : List Byte := vals.toList.flatMap fun v => [loByte v, hiByte v]

@[simp] theorem length_payloadBytes (vals : Vector Half 64) : (payloadBytes vals).length = 128 := by
  simp [payloadBytes]

/-- The encoder's data bytes are the thermistor's two and the payload. -/
theorem encodeData_eq (therm : Half) (vals : Vector Half 64) :
    encodeData therm vals = loByte therm :: hiByte therm :: payloadBytes vals := rfl

/-- The buffer that holds the encoder's payload bytes holds its array values (R61, 42_frame_decode.md R101). -/
theorem unpackValues_of_toList {arr : Vector Byte 128} {vals : Vector Half 64} (h : arr.toList = payloadBytes vals) :
    unpackValues arr = vals := by
  have hbytes : ∀ (i : Nat) (hi : i < 128), arr.toList[i]? = some arr[i] := by simp
  apply Vector.ext
  intro k hk
  obtain ⟨hlo, hhi⟩ := getElem?_flatMap_pair loByte hiByte vals.toList k
  rw [← payloadBytes, ← h, hbytes _ (by omega)] at hlo hhi
  simp only [Vector.getElem?_toList, Vector.getElem?_eq_getElem hk, Option.map_some, Option.some.injEq] at hlo hhi
  simp [unpackValues, hlo, hhi]

/-- The decoded frame in terms of the array values (42_frame_decode.md R101). -/
theorem decodeFrame_cell (arr : Vector Byte 128) (r c : Fin 8) :
    (decodeFrame arr).cell r c = (unpackValues arr)[(mirrorIndex r c).val] := by
  rw [decodeFrame, mirrorFrame, Grid.cell_build]

/-- One more byte in the part of a buffer that is filled. -/
theorem take_toList_set {n i : Nat} (v : Vector Byte n) (hi : i < n) (b : Byte) :
    (v.set i b).toList.take (i + 1) = v.toList.take i ++ [b] := by
  rw [Vector.toList_set, ← List.take_append_getElem (by simpa using hi), List.getElem_set_self,
    List.take_set_of_le le_rfl]

namespace Machine

/-! ### The outcome of a selected operation -/

/-- Where the operation selected is known, the block's reaction is its outcome. -/
theorem Reaction.exec_eq {s t : State} {e : Event} {i : Instr} (h : Reaction s e t)
    (hsel : select s.params s.seq e = .ok i) : exec i s = .next t := by
  obtain ⟨j, hsel', hexec⟩ := h.selects_and_exec
  obtain rfl : j = i := Except.ok.inj (hsel'.symm.trans hsel)
  exact hexec

@[simp] theorem pipeline_phase (s : State) : (pipeline s).phase = .hunt := by
  by_cases h : s.samples + 1 = s.cfg.n
  · simp [pipeline_complete s h]
  · simp [pipeline_incomplete s h]

/-- A verdict on a packet ends the iteration, or the run (R93). -/
theorem Reaction.phase_of_csum {s t : State} {b : Byte} (h : Reaction s (.rx b) t) (hrun : s.runstate = .run)
    (hphase : s.phase = .csum) : t.phase = .hunt ∨ t.runstate ≠ .run := by
  have other {ph : Phase} (hother : s.phase = ph) (hne : ph ≠ .csum) : False := hne (hother.symm.trans hphase)
  cases h with
  | ignored hi => exact absurd hrun hi
  | rejected => exact .inl rfl
  | accepted => exact .inl (pipeline_phase _)
  | overflowed => exact .inr nofun
  | windowExhausted | notConfirmed => exact .inl rfl
  | skipped _ _ hp | firstSeen _ _ hp | compared _ _ hp | synchronized _ _ hp | thermRead _ _ hp | arrayRead _ _ hp =>
    exact (other hp nofun).elim

end Machine

end Sys2Proof
end

section
/-! THEOREMS. The packet reader and the checksum (41_packet_checksum.md): the law of the running checksum (R97), what each
operation does where R65 selects it (R91 to R95), the detection of one changed byte (R98), and what a whole packet comes to
(R90). -/

namespace Sys2Proof.Machine

/-! ### The law of the running checksum (R97) -/

/-- While no packet is read the law says nothing. -/
theorem checksumLaw_of_searching {s : State} (h : s.phase = .hunt ∨ s.phase = .confirm) : ChecksumLaw s := by
  intro hreading
  rcases h with h | h <;> simp [h] at hreading

/-- `RD.THERM` adds its byte to the data read so far, the change of phase included (R91). -/
theorem dataSoFar_thermRead {s : State} (b acc : Byte) (hphase : s.phase = .therm) (hfidx : s.fidx.toNat < 2) :
    dataSoFar { s with thermbuf := s.thermbuf.set s.fidx.toNat b, csumacc := acc,
                       phase := if s.fidx = 0 then s.phase else .array, fidx := if s.fidx = 0 then 1 else 0 } =
      dataSoFar s ++ [b] := by
  have htake := take_toList_set s.thermbuf hfidx b
  by_cases hfirst : s.fidx = 0
  · simpa [dataSoFar, hphase, hfirst] using htake
  · have hlast : s.fidx.toNat = 1 := by bv_omega
    rw [List.take_of_length_le (by simp [hlast])] at htake
    simp only [dataSoFar, hphase, if_neg hfirst]
    simpa using htake

/-- `RD.ARRAY` adds its byte to the data read so far, the change of phase included (R92). -/
theorem dataSoFar_arrayRead {s : State} (b acc : Byte) (hphase : s.phase = .array) (hfidx : s.fidx.toNat < 128) :
    dataSoFar { s with arrbuf := s.arrbuf.set s.fidx.toNat b, csumacc := acc,
                       phase := if s.fidx.toNat < 127 then s.phase else .csum,
                       fidx := if s.fidx.toNat < 127 then s.fidx + 1 else 0 } =
      dataSoFar s ++ [b] := by
  have htake := take_toList_set s.arrbuf hfidx b
  by_cases hmore : s.fidx.toNat < 127
  · have hnext : (s.fidx + 1).toNat = s.fidx.toNat + 1 := by bv_omega
    simp only [dataSoFar, hphase, if_pos hmore, hnext, htake, List.append_assoc]
  · have hlast : s.fidx.toNat = 127 := by omega
    rw [List.take_of_length_le (by simp [hlast])] at htake
    simp only [dataSoFar, hphase, if_neg hmore, htake, List.append_assoc]

/-- The law is kept by every outcome of every operation that an event selects. -/
theorem Reaction.keeps_checksumLaw {s t : State} {e : Event} (h : Reaction s e t) (hlaw : ChecksumLaw s) :
    ChecksumLaw t := by
  cases h with
  | ignored | configured | startRefused | started | stopped | linkFailed | skipped | overflowed => exact hlaw
  | firstSeen => exact checksumLaw_of_searching (.inr rfl)
  | compared b hrun hphase => exact checksumLaw_of_searching (.inr hphase)
  | reset | windowExhausted | notConfirmed | rejected => exact checksumLaw_of_searching (.inl rfl)
  | accepted => exact checksumLaw_of_searching (.inl (pipeline_phase _))
  | synchronized => exact fun _ => rfl
  | thermRead b hrun hphase hfidx =>
    intro _
    rw [dataSoFar_thermRead b _ hphase hfidx, checksum_concat, ← hlaw (.inl hphase)]
  | arrayRead b hrun hphase hfidx =>
    intro _
    rw [dataSoFar_arrayRead b _ hphase hfidx, checksum_concat, ← hlaw (.inr (.inl hphase))]

/-- Settles O42: a byte that is read joins the data and the sum alike; every other outcome leaves both or ends the packet. -/
theorem everyStepKeepsTheChecksumLaw : Obligations.EveryStepKeepsTheChecksumLaw := by
  intro s t hlaw h
  obtain ⟨-, rfl⟩ | ⟨e, rest, hin, hreact⟩ := step_next_reaction h
  · exact hlaw
  · exact hreact.keeps_checksumLaw hlaw

/-! ### One changed byte (R98) -/

/-- Settles O39: a changed data byte changes the computed checksum, a changed last byte the received one. -/
theorem oneChangedByteIsDetected : Obligations.OneChangedByteIsDetected := by
  intro p therm vals j b hlow hhigh hb
  have hlen := length_encodePacket p therm vals
  refine decodePacket_badChecksum (by rw [List.length_set, hlen]) (List.take_set_of_le hlow) ?_
  have hlast : (encodePacket p therm vals)[133]? = some (checksum (encodeData therm vals)) := by
    rw [(isPacketOf_encodePacket p therm vals).checksum_eq, packetData_encodePacket]
  obtain rfl | hdata : j = 133 ∨ j < 133 := by omega
  · rw [packetData_encodePacket_set_checksum, byteAt_of_getElem? (List.getElem?_set_self (by omega))]
    rintro rfl
    exact hb hlast
  · obtain ⟨i, rfl⟩ := Nat.exists_eq_add_of_le' hlow
    have hi : i < (encodeData therm vals).length := by rw [length_encodeData]; omega
    rw [getElem?_encodePacket_data p therm vals (by omega), List.getElem?_eq_getElem hi] at hb
    rw [packetData_encodePacket_set, byteAt_of_getElem? ((List.getElem?_set_ne (by omega)).trans hlast)]
    exact (checksum_set_ne hi (mt (congrArg some) hb)).symm

/-! ### The operations (R91 to R95) -/

/-- The row of `RD.THERM` and its outcome at either index (R91). -/
theorem select_and_exec_rdTherm {s : State} (b : Byte) (hrun : s.runstate = .run) (hphase : s.phase = .therm)
    (hfidx : s.fidx.toNat < 2) :
    select s.params s.seq (.rx b) = .ok (.rdTherm b) ∧
      exec (.rdTherm b) s =
        .next { s with thermbuf := s.thermbuf.set s.fidx.toNat b, csumacc := addCsum s.csumacc b,
                       phase := if s.fidx = 0 then s.phase else .array, fidx := if s.fidx = 0 then 1 else 0 } := by
  have hsel : select s.params s.seq (.rx b) = .ok (.rdTherm b) :=
    select_of_selectedAt (by simp [Instr.selectedAt, State.seq, hrun, hphase, Nat.le_of_lt_succ hfidx]) rfl
  exact ⟨hsel, (Reaction.thermRead b hrun hphase hfidx).exec_eq hsel⟩

/-- Settles O9: the row of `RD.THERM` at each index. -/
theorem rdThermStoresTheByte : Obligations.RdThermStoresTheByte := by
  intro s b hrun hphase
  rw [← addCsum_eq_mod]
  constructor
  · intro hfidx
    obtain ⟨hsel, hexec⟩ := select_and_exec_rdTherm b hrun hphase (by simp [hfidx])
    exact ⟨hsel, by simp [hexec, hfidx]⟩
  · intro hfidx
    obtain ⟨hsel, hexec⟩ := select_and_exec_rdTherm b hrun hphase (by simp [hfidx])
    exact ⟨hsel, by simp [hexec, hfidx]⟩

/-- Settles O10: the row of `RD.ARRAY` at every index of the buffer. -/
theorem rdArrayStoresTheByte : Obligations.RdArrayStoresTheByte := by
  intro s b hfidx hrun hphase
  have hsel : select s.params s.seq (.rx b) = .ok (.rdArray b) :=
    select_of_selectedAt (by simp [Instr.selectedAt, State.seq, hrun, hphase, Nat.le_of_lt_succ hfidx]) rfl
  refine ⟨hsel, ((Reaction.arrayRead b hrun hphase hfidx).exec_eq hsel).trans ?_⟩
  rw [← addCsum_eq_mod, hphase]

/-- Settles O12: `ChecksumError` is recoverable. -/
theorem pktRejectDiscardsThePacket : Obligations.PktRejectDiscardsThePacket :=
  fun s b => congrArg Host.Outcome.next (raise_recoverable (.checksumError b s.csumacc) s (.inr rfl))

/-- Settles O11: the two branches of `RD.CSUM`, and every outcome of a checksum byte. -/
theorem rdCsumComparesExactly : Obligations.RdCsumComparesExactly := by
  intro s b hrun hphase hfidx
  have hsel : select s.params s.seq (.rx b) = .ok (.rdCsum b) :=
    select_of_selectedAt (by simp [Instr.selectedAt, State.seq, hrun, hphase, hfidx]) rfl
  refine ⟨hsel, fun hb => if_pos hb, fun hb => ?_, fun t hexec => ?_⟩
  · have hreject : exec (.rdCsum b) s = exec (.pktReject b) s := if_neg hb
    exact ⟨hreject, hreject.trans (pktRejectDiscardsThePacket s b)⟩
  · exact (reaction_of_select hsel hexec).phase_of_csum hrun hphase

/-- Below the counter's maximum `PKT.ACCEPT` is `PIPE.RUN` of the counted packet (R95). -/
theorem acceptPacket_of_ne_max {s : State} (hcnt : s.pktcnt ≠ 0xFFFFFFFF#32) :
    acceptPacket s = runPipeline (afterCount s) := if_neg hcnt

/-- Settles O13: the guard on the counter, and the pipeline where it is ready. -/
theorem pktAcceptCountsAndRunsThePipeline : Obligations.PktAcceptCountsAndRunsThePipeline := by
  intro s
  constructor
  · intro hcnt
    have haccept : exec .pktAccept s = exec .pipeRun (afterCount s) := acceptPacket_of_ne_max hcnt
    have hcsum : exec (.rdCsum s.csumacc) s = exec .pktAccept s := if_pos rfl
    refine ⟨haccept, toNat_add_one_of_ne_max hcnt, halfOfBytes_toInt s.thermbuf[0] s.thermbuf[1], fun hready => ?_⟩
    have hrun : exec .pipeRun (afterCount s) = .next (pipeline (afterCount s)) :=
      (runPipeline_eq_next_iff _ _).2 ⟨hready, rfl⟩
    exact ⟨_, haccept.trans hrun, hcsum.trans (haccept.trans hrun)⟩
  · intro hcnt
    have hoverflow : exec .pktAccept s = .next (raise .counterOverflow s) := if_pos hcnt
    rw [hoverflow, raise_fatal _ _ (.inr rfl)]
    rfl

/-! ### Reading a packet (R90) -/

/-- A step is the reaction to the oldest event, the event being consumed (20_memory.md R43). -/
theorem step_of_reaction {s t : State} {e : Event} {rest : List Event} (hin : s.inbox = e :: rest)
    (h : Reaction { s with inbox := rest } e t) : step s = .next t := by
  have hpop : s.popInbox = { s with inbox := rest } := by rw [State.popInbox, hin, List.tail_cons]
  exact (step_eq_next_iff hin).2 (hpop ▸ h)

/-- `s` with the first `n` thermistor bytes in `buf`, the running checksum at `acc`, and `waiting` still to come. -/
def thermAt (s : State) (n : Nat) (buf : Vector Byte 2) (acc : Byte) (waiting : List Event) : State :=
  { s with phase := .therm, fidx := BitVec.ofNat 8 n, thermbuf := buf, csumacc := acc, inbox := waiting }

/-- `s` with the first `n` payload bytes in `arr`. -/
def arrayAt (s : State) (n : Nat) (arr : Vector Byte 128) (acc : Byte) (waiting : List Event) : State :=
  { s with phase := .array, fidx := BitVec.ofNat 8 n, arrbuf := arr, csumacc := acc, inbox := waiting }

/-- `s` with the whole payload in `arr`: the checksum byte is next. -/
def csumAt (s : State) (arr : Vector Byte 128) (acc : Byte) (waiting : List Event) : State :=
  { s with phase := .csum, fidx := 0, arrbuf := arr, csumacc := acc, inbox := waiting }

/-- `s` synchronized, with this thermistor value in the buffer (R84, R91). -/
def thermBuffered (s : State) (therm : Half) : State :=
  { s with scancnt := 3, confok := true, thermbuf := #v[loByte therm, hiByte therm] }

/-- The checksum byte arrives: the whole packet but for it is read. -/
def verdictAt (s : State) (therm : Half) (vals : Vector Half 64) (arr : Vector Byte 128) (waiting : List Event) : State :=
  csumAt (thermBuffered s therm) arr (checksum (encodeData therm vals)) waiting

section

variable {s : State} (hrun : s.runstate = .run) (waiting : List Event)

include hrun

/-- The two thermistor bytes (R91). -/
theorem run_thermBytes (buf : Vector Byte 2) (acc lo hi : Byte) :
    Host.Core.run core 2 (thermAt s 0 buf acc (.rx lo :: .rx hi :: waiting)) =
      .next (arrayAt { s with thermbuf := #v[lo, hi] } 0 s.arrbuf (addCsum (addCsum acc lo) hi) waiting) := by
  have hlo : step (thermAt s 0 buf acc (.rx lo :: .rx hi :: waiting)) =
      .next (thermAt s 1 (buf.set 0 lo) (addCsum acc lo) (.rx hi :: waiting)) :=
    step_of_reaction rfl (.thermRead (s := thermAt s 0 buf acc (.rx hi :: waiting)) lo hrun rfl Nat.zero_lt_two)
  have hhi : step (thermAt s 1 (buf.set 0 lo) (addCsum acc lo) (.rx hi :: waiting)) =
      .next (arrayAt { s with thermbuf := (buf.set 0 lo).set 1 hi } 0 s.arrbuf (addCsum (addCsum acc lo) hi) waiting) :=
    step_of_reaction rfl
      (.thermRead (s := thermAt s 1 (buf.set 0 lo) (addCsum acc lo) waiting) hi hrun rfl Nat.one_lt_two)
  have hbuf : (buf.set 0 lo).set 1 hi = #v[lo, hi] := by
    apply Vector.ext
    intro i hi
    interval_cases i <;> simp
  rw [hbuf] at hhi
  exact (run_succ_of_next hlo 1).trans (run_succ_of_next hhi 0)

/-- A payload byte before the last (R92). -/
theorem step_arrayByte {n : Nat} (hn : n < 127) (arr : Vector Byte 128) (acc b : Byte) :
    step (arrayAt s n arr acc (.rx b :: waiting)) =
      .next (arrayAt s (n + 1) (arr.set n b) (addCsum acc b) waiting) := by
  have hfidx : (BitVec.ofNat 8 n).toNat = n := toNat_scancnt (by omega)
  have hnext : BitVec.ofNat 8 n + 1 = BitVec.ofNat 8 (n + 1) := (BitVec.ofNat_add n 1).symm
  have h := Reaction.arrayRead (s := arrayAt s n arr acc waiting) b hrun rfl (hfidx.trans_lt (by omega))
  simp only [arrayAt, hfidx, if_pos hn, hnext] at h
  exact step_of_reaction rfl h

/-- The last payload byte (R92). -/
theorem step_lastArrayByte (arr : Vector Byte 128) (acc b : Byte) :
    step (arrayAt s 127 arr acc (.rx b :: waiting)) = .next (csumAt s (arr.set 127 b) (addCsum acc b) waiting) :=
  step_of_reaction rfl (.arrayRead (s := arrayAt s 127 arr acc waiting) b hrun rfl (Nat.lt_succ_self 127))

/-- The rest of the payload, from wherever the buffer is filled to (R92). -/
theorem run_arrayBytes {bytes : List Byte} {n : Nat} (hn : n < 128) (hlen : n + bytes.length = 128)
    (arr : Vector Byte 128) (acc : Byte) :
    ∃ arr' acc', arr'.toList = arr.toList.take n ++ bytes ∧
      Host.Core.run core bytes.length (arrayAt s n arr acc (rxEvents bytes ++ waiting)) =
        .next (csumAt s arr' acc' waiting) := by
  induction bytes generalizing n arr acc with
  | nil => exact absurd hlen hn.ne
  | cons b bytes ih =>
    have htake := take_toList_set arr hn b
    rw [List.length_cons] at hlen
    by_cases hmore : n < 127
    · obtain ⟨arr', acc', harr, hrest⟩ := ih (n := n + 1) (by omega) (by omega) (arr.set n b) (addCsum acc b)
      have hstep := step_arrayByte hrun (rxEvents bytes ++ waiting) hmore arr acc b
      refine ⟨arr', acc', ?_, (run_succ_of_next hstep _).trans hrest⟩
      rw [harr, htake, List.append_assoc, List.singleton_append]
    · obtain rfl : n = 127 := by omega
      obtain rfl : bytes = [] := List.length_eq_zero_iff.1 (by omega)
      rw [List.take_of_length_le (by simp)] at htake
      exact ⟨_, _, htake, run_succ_of_next (step_lastArrayByte hrun waiting arr acc b) 0⟩

/-- A packet up to its checksum byte: the three markers, the thermistor and the payload are read, and by the law of the
running checksum (R97) `CSUMACC` is their data's checksum. -/
theorem run_until_csum (hphase : s.phase = .hunt) (hfidx : s.fidx = 0) (hscan : s.scancnt = 0) {therm : Half}
    {vals : Vector Half 64} {c : Byte}
    (hin : s.inbox =
      rxEvents ([s.params.marker, s.params.marker, s.params.marker] ++ encodeData therm vals ++ [c]) ++ waiting) :
    ∃ arr, unpackValues arr = vals ∧
      Host.Core.run core 133 s = .next (verdictAt s therm vals arr (.rx c :: waiting)) := by
  obtain ⟨hsuccess, -, -⟩ := syncAttemptOutcome s
    (.rx (loByte therm) :: .rx (hiByte therm) :: (rxEvents (payloadBytes vals) ++ .rx c :: waiting))
    hrun hphase hfidx hscan
  have hsync := hsuccess [] (by simp) (by simp) (by simpa [rxEvents, encodeData_eq] using hin)
  have htherm := run_thermBytes (s := { s with scancnt := 3, confok := true }) hrun
    (rxEvents (payloadBytes vals) ++ .rx c :: waiting) s.thermbuf 0 (loByte therm) (hiByte therm)
  have hlen : 0 + (payloadBytes vals).length = 128 := by simp
  obtain ⟨arr, acc, harr, harray⟩ := run_arrayBytes (s := thermBuffered s therm) hrun (.rx c :: waiting)
    (Nat.zero_lt_succ 127) hlen s.arrbuf (addCsum (addCsum 0 (loByte therm)) (hiByte therm))
  rw [length_payloadBytes] at harray
  have hread : Host.Core.run core 133 s = .next (csumAt (thermBuffered s therm) arr acc (.rx c :: waiting)) :=
    (run_add_of_next hsync 130).trans ((run_add_of_next htherm 128).trans harray)
  have hlaw := run_keeps everyStepKeepsTheChecksumLaw 133 s _ (checksumLaw_of_searching (.inl hphase)) hread
  have hacc : acc = checksum (#v[loByte therm, hiByte therm].toList ++ arr.toList) := hlaw (.inr (.inr rfl))
  rw [List.take_zero, List.nil_append] at harr
  rw [harr] at hacc
  exact ⟨arr, unpackValues_of_toList harr, by rw [hread, hacc]; rfl⟩

end

/-- Settles O58: the packet is read up to its checksum byte, which matches. -/
theorem wellFormedPacketIsAccepted : Obligations.WellFormedPacketIsAccepted := by
  intro s therm vals rest hrun hphase hfidx hscan hcnt hready hin
  obtain ⟨arr, hvals, hread⟩ := run_until_csum hrun rest hphase hfidx hscan hin
  have hverdict : step (verdictAt s therm vals arr (.rx (checksum (encodeData therm vals)) :: rest)) =
      .next (pipeline (afterCount (verdictAt s therm vals arr rest))) :=
    step_of_reaction rfl (.accepted (s := verdictAt s therm vals arr rest) hrun rfl rfl hcnt hready)
  have htherm : { afterCount (verdictAt s therm vals arr rest) with therm := therm } =
      afterCount (verdictAt s therm vals arr rest) :=
    congrArg (fun v => { afterCount (verdictAt s therm vals arr rest) with therm := v })
      (halfOfBytes_loByte_hiByte therm).symm
  refine ⟨arr, _, _, fun r c => ?_, htherm.symm, (runPipeline_eq_next_iff _ _).2 ⟨hready, rfl⟩,
    (run_add_of_next hread 1).trans (run_succ_of_next hverdict 0)⟩
  rw [decodeFrame_cell, hvals]

/-- Settles O59: the packet is read up to its checksum byte, which does not match. -/
theorem wrongChecksumIsRejected : Obligations.WrongChecksumIsRejected := by
  intro s therm vals bad rest hrun hphase hfidx hscan hbad hin
  rw [encodePacket_set_checksum] at hin
  obtain ⟨arr, hvals, hread⟩ := run_until_csum hrun rest hphase hfidx hscan hin
  have hverdict := step_of_reaction (s := verdictAt s therm vals arr (.rx bad :: rest)) rfl
    (.rejected (s := verdictAt s therm vals arr rest) bad hrun rfl rfl hbad)
  exact ⟨arr, hvals, (run_add_of_next hread 1).trans (run_succ_of_next hverdict 0)⟩

end Sys2Proof.Machine
end

section
/-! THEOREMS. The frame decoder (42_frame_decode.md): what `DEC.FRAME` yields (R101), and the properties of the decode
(R103): it is the unpacking of the bytes followed by the reversal of the columns, and each of the two is a bijection. -/

namespace Sys2Proof

/-! ### Unpacking the array values -/

/-- The first line of `DEC.FRAME`, value by value (R101). -/
@[simp] theorem getElem_unpackValues (arr : Vector Byte 128) {k : Nat} (hk : k < 64) :
    (unpackValues arr)[k] = halfOfBytes arr[2 * k] arr[2 * k + 1] := by
  simp only [unpackValues, Vector.getElem_ofFn]

/-- Each byte of the buffer is the low or the high byte of its array value. -/
theorem unpackValues_injective : Function.Injective unpackValues := by
  intro arr arr' h
  have hval (k : Nat) (hk : k < 64) :
      halfOfBytes arr[2 * k] arr[2 * k + 1] = halfOfBytes arr'[2 * k] arr'[2 * k + 1] := by
    simpa only [getElem_unpackValues] using congrArg (·[k]) h
  apply Vector.ext
  intro i hi
  obtain ⟨k, rfl | rfl⟩ := i.even_or_odd'
  · simpa only [loByte_halfOfBytes] using congrArg loByte (hval k (by omega))
  · simpa only [hiByte_halfOfBytes] using congrArg hiByte (hval k (by omega))

/-- The encoder's payload of any array values unpacks to them. -/
theorem unpackValues_surjective : Function.Surjective unpackValues := fun vals =>
  ⟨⟨(payloadBytes vals).toArray, length_payloadBytes vals⟩, unpackValues_of_toList rfl⟩

/-! ### Reversing the columns -/

namespace Grid

/-- R103 (b), cell by cell. -/
@[simp] theorem cell_reverseColumns {α : Type} (g : Grid α) (r c : Fin 8) :
    (reverseColumns g).cell r c = g.cell r c.rev := by
  have hrev : (⟨7 - c.val, by omega⟩ : Fin 8) = c.rev := by
    ext
    simp only [Fin.val_rev]
    omega
  rw [reverseColumns, cell_build, hrev]

theorem reverseColumns_involutive {α : Type} : Function.Involutive (reverseColumns (α := α)) := fun g =>
  eq_of_cell fun r c => by rw [cell_reverseColumns, cell_reverseColumns, Fin.rev_rev]

end Grid

/-! ### The decode as the two lines of `DEC.FRAME` -/

/-- R101: the values are unpacked, laid out row by row, and the columns of each row reversed. -/
theorem decodeFrame_eq_comp : decodeFrame = Grid.reverseColumns ∘ unpackValues := rfl

/-- R103 (c): both lines of `DEC.FRAME` are bijections. -/
theorem decodeFrame_bijective : Function.Bijective decodeFrame := by
  rw [decodeFrame_eq_comp]
  exact Grid.reverseColumns_involutive.bijective.comp ⟨unpackValues_injective, unpackValues_surjective⟩

/-- R103 (b): a second reversal undoes the decoder's. -/
theorem reverseColumns_decodeFrame (arr : Vector Byte 128) : (decodeFrame arr).reverseColumns = unpackValues arr := by
  rw [decodeFrame_eq_comp, Function.comp_apply, Grid.reverseColumns_involutive]

/-! ### The detectors' measures under the reversal -/

/-- A sum over all cells does not depend on the order of the columns. -/
theorem sumCells_rev (f : Fin 8 → Fin 8 → Int) : (sumCells fun r c => f r c.rev) = sumCells f := by
  rw [sumCells_eq_sum, sumCells_eq_sum]
  exact Finset.sum_congr rfl fun r _ => Equiv.sum_comp Fin.revPerm (f r)

namespace Machine

/-- R103 (e), the occupancy measure: the total and the sum of squares are sums over all cells. -/
theorem qocc_reverseColumns (g : SumGrid) : qocc g.reverseColumns = qocc g := by
  have htotal : gridTotal g.reverseColumns = gridTotal g := by
    simpa only [gridTotal, Grid.cell_reverseColumns] using sumCells_rev fun r c => (g.cell r c).toInt
  have hsquares : gridSquares g.reverseColumns = gridSquares g := by
    simpa only [gridSquares, Grid.cell_reverseColumns] using sumCells_rev fun r c => (g.cell r c).toInt ^ 2
  rw [qocc, qocc, htotal, hsquares]

/-- R103 (e), the motion measure: corresponding cells stay in correspondence. -/
theorem qmot_reverseColumns (g p : SumGrid) : qmot g.reverseColumns p.reverseColumns = qmot g p := by
  simpa only [qmot, Grid.cell_reverseColumns] using
    sumCells_rev fun r c => ((g.cell r c).toInt - (p.cell r c).toInt) ^ 2

/-- Settles O54: the decode is a bijection followed by an involution, and the measures are sums over all cells. -/
theorem frameDecodeIsABijection : Obligations.FrameDecodeIsABijection :=
  ⟨decodeFrame_bijective, fun arr r c => by rw [reverseColumns_decodeFrame, Grid.cell],
    fun g p => ⟨qocc_reverseColumns g, qmot_reverseColumns g p⟩⟩

/-- Settles O16: the frame is the decode of the buffer, whose cells are the array values of R101. -/
theorem decFrameUnpacksAndMirrors : Obligations.DecFrameUnpacksAndMirrors := by
  intro s
  refine ⟨decodeFrame s.arrbuf, rfl, fun r c k hk => ?_⟩
  subst hk
  exact (decodeFrame_cell s.arrbuf r c).trans (getElem_unpackValues s.arrbuf (mirrorIndex r c).isLt)

end Machine

end Sys2Proof
end

section
/-! THEOREMS. The averager (43_averager.md): its two operations (R106, R107), and what a step does to the window and to the
history of the accepted frames (R108, 10_state.md R37 item 2). -/

namespace Sys2Proof.Machine

/-! ### The two operations -/

/-- Settles O18: the operation's one line, and the value of the frame it yields. -/
theorem accEmitSnapshotsAndClears : Obligations.AccEmitSnapshotsAndClears :=
  fun _ => ⟨rfl, fun _ _ => by rw [Avg.value, Int.cast_natCast]⟩

/-- Settles O17: the lanes by `addFrame`, then the two outcomes of the window test. -/
theorem accAddAddsEveryCell : Obligations.AccAddAddsEveryCell := by
  intro s f
  refine ⟨addFrame s.sum f, addFrame_cell s.sum f, fun r c hsum => ?_, fun hn => ?_, fun hn => ?_⟩
  · obtain ⟨hexact, -⟩ := addFrame_cell_bound f (Nat.le_refl 65535) hsum
    exact hexact
  · exact congrArg Host.Outcome.next (accAdd_incomplete f s hn)
  · have hemit : exec (.accAdd f) s = exec .accEmit { s with sum := addFrame s.sum f, samples := s.samples + 1 } :=
      congrArg Host.Outcome.next (accAdd_complete f s hn)
    exact ⟨hemit, hemit⟩

/-! ### What the pipeline does to the window -/

/-- The window's count after a packet: it grows, or starts anew (R106, R107). -/
theorem pipeline_samples (s : State) :
    (pipeline s).samples = if s.samples + 1 = s.cfg.n then 0 else s.samples + 1 := by
  split
  next h => rw [pipeline_complete s h, afterIteration_samples, windowCompleted]
  next h => rw [pipeline_incomplete s h, afterIteration_samples, windowGrown]

/-- The window's sums after a packet: they grow, or start anew (R106, R107). -/
theorem pipeline_sum (s : State) :
    (pipeline s).sum = if s.samples + 1 = s.cfg.n then Grid.all 0 else addFrame s.sum (decodeFrame s.arrbuf) := by
  split
  next h => rw [pipeline_complete s h, afterIteration_sum, windowCompleted]
  next h => rw [pipeline_incomplete s h, afterIteration_sum, windowGrown]

/-- The output events contain no `FRAME`. -/
def NoFrame (l : List Output) : Prop := ∀ S n o m k, Output.frame S n o m k ∉ l

@[simp] theorem noFrame_nil : NoFrame [] := fun _ _ _ _ _ => List.not_mem_nil

@[simp] theorem noFrame_cons {e : Output} {l : List Output} :
    NoFrame (e :: l) ↔ (∀ S n o m k, Output.frame S n o m k ≠ e) ∧ NoFrame l := by
  simp only [NoFrame, List.mem_cons, not_or, forall_and]

@[simp] theorem noFrame_append {l l' : List Output} : NoFrame (l ++ l') ↔ NoFrame l ∧ NoFrame l' := by
  simp only [NoFrame, List.mem_append, not_or, forall_and]

/-- `TRIG.CHK` emits no `FRAME` (R126). -/
@[simp] theorem noFrame_triggerReport (c : CfgRegs) (cnt : Word) : NoFrame (triggerReport c cnt) := by
  unfold triggerReport
  split <;> simp

/-- The end of an iteration adds no `FRAME` to the iteration's own report (R127). -/
theorem afterIteration_reports (s : State) (report : List Output) :
    ∃ rest, (afterIteration s report).outbox = s.outbox ++ (report ++ rest) ∧ NoFrame rest := by
  refine ⟨_, List.append_assoc .., ?_⟩
  split <;> simp

/-- A `FRAME` emitted by the end of an iteration stands in the iteration's own report. -/
theorem frame_mem_afterIteration_iff {s : State} {report l : List Output}
    (h : (afterIteration s report).outbox = s.outbox ++ l) (S : SumGrid) (n : Half) (o m : Bool) (k : Word) :
    Output.frame S n o m k ∈ l ↔ Output.frame S n o m k ∈ report := by
  obtain ⟨rest, hrest, hno⟩ := afterIteration_reports s report
  have hl : l = report ++ rest := List.append_cancel_left (h.symm.trans hrest)
  rw [hl, List.mem_append, or_iff_left (hno S n o m k)]

/-- `PIPE.RUN` emits a `FRAME` exactly when the window is complete, and then that of the completed average (R120). -/
theorem frame_mem_pipeline_iff {s : State} {l : List Output} (h : (pipeline s).outbox = s.outbox ++ l)
    (S : SumGrid) (n : Half) (o m : Bool) (k : Word) :
    Output.frame S n o m k ∈ l ↔ s.samples + 1 = s.cfg.n ∧ Output.frame S n o m k = completedFrame s := by
  have htrig := noFrame_triggerReport s.cfg s.pktcnt S n o m k
  by_cases hn : s.samples + 1 = s.cfg.n
  · have hout : (windowCompleted s).outbox = s.outbox := by rw [windowCompleted]
    rw [pipeline_complete s hn, ← hout] at h
    rw [frame_mem_afterIteration_iff h, List.mem_cons, or_iff_left htrig, and_iff_right hn]
  · have hout : (windowGrown s).outbox = s.outbox := by rw [windowGrown]
    rw [pipeline_incomplete s hn, ← hout] at h
    rw [frame_mem_afterIteration_iff h]
    exact iff_of_false htrig fun ⟨hfull, _⟩ => hn hfull

/-! ### Which events reach the window -/

/-- On the event `e` the block accepts a packet (41_packet_checksum.md R93, R95). -/
def Accepts (s : State) (e : Event) : Prop :=
  s.runstate = .run ∧ s.phase = .csum ∧ e = .rx s.csumacc ∧ s.pktcnt ≠ 0xFFFFFFFF#32

/-- From `s` to `t` the packet counter and the window stay as they are, and no `FRAME` is emitted. -/
structure KeepsWindow (s t : State) : Prop where
  pktcnt : t.pktcnt = s.pktcnt
  samples : t.samples = s.samples
  sum : t.sum = s.sum
  reports : ∃ l, t.outbox = s.outbox ++ l ∧ NoFrame l

theorem KeepsWindow.refl (s : State) : KeepsWindow s s :=
  ⟨rfl, rfl, rfl, [], (List.append_nil _).symm, noFrame_nil⟩

/-- The end of an iteration that reports no `FRAME` (R127). -/
theorem KeepsWindow.afterIteration (s : State) {report : List Output} (hno : NoFrame report) :
    KeepsWindow s (afterIteration s report) := by
  obtain ⟨rest, hout, hrest⟩ := afterIteration_reports s report
  exact ⟨rfl, rfl, rfl, report ++ rest, hout, noFrame_append.2 ⟨hno, hrest⟩⟩

/-- The window is cleared by `RESET`, fed by an accepted packet, and left alone by every other outcome. -/
theorem Reaction.window_cases {s t : State} {e : Event} (h : Reaction s e t) :
    (e = .reset ∧ t = resetState s) ∨
    (Accepts s e ∧ t = pipeline (afterCount s)) ∨
    (e ≠ .reset ∧ ¬ Accepts s e ∧ KeepsWindow s t) := by
  cases h with
  | reset => exact .inl ⟨rfl, rfl⟩
  | accepted hrun hphase hfidx hcnt => exact .inr (.inl ⟨⟨hrun, hphase, rfl, hcnt⟩, rfl⟩)
  | ignored hi =>
    refine .inr (.inr ⟨?_, ?_, .refl s⟩)
    · rintro rfl
      exact hi
    · rintro ⟨hrun, -, rfl, -⟩
      exact hi hrun
  | startRefused | started | stopped =>
    exact .inr (.inr ⟨nofun, by simp [Accepts], rfl, rfl, rfl, _, rfl, by simp⟩)
  | linkFailed x => exact .inr (.inr ⟨nofun, by simp [Accepts], rfl, rfl, rfl, _, rfl, by cases x <;> simp⟩)
  | configured w =>
    exact .inr (.inr ⟨nofun, by simp [Accepts], rfl, rfl, rfl, [], (List.append_nil _).symm, noFrame_nil⟩)
  | skipped b hrun hphase | firstSeen b hrun hphase | compared b hrun hphase | synchronized b hrun hphase
  | thermRead b hrun hphase | arrayRead b hrun hphase =>
    exact .inr (.inr ⟨nofun, by simp [Accepts, hphase], rfl, rfl, rfl, [], (List.append_nil _).symm, noFrame_nil⟩)
  | windowExhausted b hrun hphase =>
    exact .inr (.inr ⟨nofun, by rcases hphase with hp | hp <;> simp [Accepts, hp], .afterIteration s (by simp)⟩)
  | notConfirmed b hrun hphase => exact .inr (.inr ⟨nofun, by simp [Accepts, hphase], .afterIteration s (by simp)⟩)
  | rejected b hrun hphase hfidx hb => exact .inr (.inr ⟨nofun, by simp [Accepts, hb], .afterIteration s (by simp)⟩)
  | overflowed hrun hphase hfidx hcnt =>
    exact .inr (.inr ⟨nofun, by simp [Accepts, hcnt], rfl, rfl, rfl, _, rfl, by simp⟩)

/-! ### The history of the accepted frames -/

section FramesAfter

variable {s : State} {e : Event} {rest : List Event}

theorem framesAfter_of_reset (hin : s.inbox = .reset :: rest) (frames : List Frame) : framesAfter s frames = [] := by
  rw [framesAfter, hin, List.head?_cons, if_pos rfl]

theorem framesAfter_of_accepts (hin : s.inbox = e :: rest) (h : Accepts s e) (frames : List Frame) :
    framesAfter s frames = decodeFrame s.arrbuf :: frames := by
  obtain ⟨hrun, hphase, rfl, hcnt⟩ := h
  have haccepted : acceptedFrame s = some (decodeFrame s.arrbuf) := if_pos ⟨hrun, hphase, by rw [hin]; rfl, hcnt⟩
  rw [framesAfter, haccepted, hin, List.head?_cons, if_neg nofun]
  rfl

theorem framesAfter_of_not_accepts (hin : s.inbox = e :: rest) (he : e ≠ .reset) (h : ¬ Accepts s e)
    (frames : List Frame) : framesAfter s frames = frames := by
  have haccepted : acceptedFrame s = none := by
    refine if_neg ?_
    rintro ⟨hrun, hphase, hhead, hcnt⟩
    rw [hin] at hhead
    exact h ⟨hrun, hphase, Option.some.inj hhead, hcnt⟩
  rw [framesAfter, haccepted, hin, List.head?_cons, if_neg fun heq => he (Option.some.inj heq)]
  rfl

theorem framesAfter_of_inbox_nil (hnil : s.inbox = []) (frames : List Frame) : framesAfter s frames = frames := by
  have haccepted : acceptedFrame s = none := by
    refine if_neg ?_
    rintro ⟨-, -, hhead, -⟩
    rw [hnil] at hhead
    cases hhead
  rw [framesAfter, haccepted, hnil, List.head?_nil, if_neg nofun]
  rfl

end FramesAfter

/-- An empty window is the sum of none of the frames. -/
theorem cell_all_toInt_eq_sumOfNewest_zero (frames : List Frame) (r c : Fin 8) :
    ((Grid.all (0 : Word)).cell r c).toInt = sumOfNewest frames 0 r c := by
  rw [Grid.cell_all]
  rfl

/-- Where nothing is counted and nothing summed, no frame has been accepted (10_state.md R36). -/
theorem frameHistory_nil {s : State} (hcnt : s.pktcnt = 0) (hsum : s.sum = Grid.all 0) (hsamples : s.samples = 0) :
    FrameHistory [] s :=
  ⟨by rw [hcnt]; rfl, fun r c => by
    rw [hsum, hsamples]
    exact cell_all_toInt_eq_sumOfNewest_zero [] r c⟩

section History

variable {s t : State} {frames : List Frame}

theorem FrameHistory.keepsWindow (h : FrameHistory frames s) (hkeeps : KeepsWindow s t) : FrameHistory frames t := by
  obtain ⟨hpktcnt, hsamples, hsum, -⟩ := hkeeps
  rw [FrameHistory, hpktcnt, hsamples, hsum]
  exact h

/-- The accepted packet's frame is added exactly (R106), so the grown sums are those of one more frame. -/
theorem FrameHistory.addFrame_cell_toInt (h : FrameHistory frames s) (hinv : Inv s) (hrun : s.runstate = .run)
    (f : Frame) (r c : Fin 8) :
    ((addFrame s.sum f).cell r c).toInt = sumOfNewest (f :: frames) (s.samples.toNat + 1) r c := by
  obtain ⟨-, hsum⟩ := h
  have hwindow := hinv.samplesInWindow (Inv.not_idle_of_run hrun)
  have hn := s.cfg.n.isLt
  obtain ⟨hexact, -⟩ := addFrame_cell_bound f (by omega) (hinv.sumBound r c)
  rw [hexact, hsum, sumOfNewest_cons, Int.add_comm]

/-- A complete window starts anew and an incomplete one grows by the accepted frame: `SUM` stays the sum of the last
`SAMPLES` frames (R108). -/
theorem FrameHistory.accepted (h : FrameHistory frames s) (hinv : Inv s) (hrun : s.runstate = .run)
    (hcnt : s.pktcnt ≠ 0xFFFFFFFF#32) :
    FrameHistory (decodeFrame s.arrbuf :: frames) (pipeline (afterCount s)) := by
  obtain ⟨hsucc, -, -⟩ := hinv.counts_succ hrun hcnt
  refine ⟨?_, fun r c => ?_⟩
  · obtain ⟨hlen, -⟩ := h
    rw [pipeline_pktcnt, afterCount_pktcnt, toNat_add_one_of_ne_max hcnt, ← hlen, List.length_cons]
  · rw [pipeline_sum, pipeline_samples]
    by_cases hn : (afterCount s).samples + 1 = (afterCount s).cfg.n
    · rw [if_pos hn, if_pos hn]
      exact cell_all_toInt_eq_sumOfNewest_zero _ r c
    · rw [if_neg hn, if_neg hn, afterCount_samples, hsucc]
      exact h.addFrame_cell_toInt hinv hrun _ r c

/-- The `FRAME` of a packet that completes the window carries the sum of the last `CFG_N` frames (R107, R108). -/
theorem FrameHistory.completedFrame_carries (h : FrameHistory frames s) (hinv : Inv s) (hrun : s.runstate = .run)
    (hcnt : s.pktcnt ≠ 0xFFFFFFFF#32) (hfull : s.samples + 1 = s.cfg.n) :
    s.cfg.n.toNat ≤ (decodeFrame s.arrbuf :: frames).length ∧
      ∀ r c, ((completedAvg s).S.cell r c).toInt =
        sumOfNewest (decodeFrame s.arrbuf :: frames) s.cfg.n.toNat r c := by
  obtain ⟨hsucc, -, -⟩ := hinv.counts_succ hrun hcnt
  rw [← hfull, hsucc]
  refine ⟨?_, h.addFrame_cell_toInt hinv hrun _⟩
  obtain ⟨hlen, -⟩ := h
  have hcount := hinv.samplesCount (Inv.not_idle_of_run hrun)
  have hle := Nat.mod_le s.pktcnt.toNat s.cfg.n.toNat
  rw [List.length_cons]
  omega

end History

/-! ### The window and the packet count -/

section Window

variable {s : State}

/-- The accepted packet completes the window exactly when the new count is a multiple of `CFG_N` (R108). -/
theorem Inv.completes_iff_mod_eq_zero (h : Inv s) (hrun : s.runstate = .run) (hcnt : s.pktcnt ≠ 0xFFFFFFFF#32) :
    s.samples + 1 = s.cfg.n ↔ (s.pktcnt + 1).toNat % s.cfg.n.toNat = 0 := by
  obtain ⟨hsucc, hle, hmod⟩ := h.counts_succ hrun hcnt
  rw [hmod, ← BitVec.toNat_inj, hsucc]
  constructor
  · intro hfull
    rw [hfull, Nat.mod_self]
  · intro hzero
    exact Nat.le_antisymm hle (Nat.le_of_dvd (Nat.succ_pos _) (Nat.dvd_of_mod_eq_zero hzero))

/-- `SAMPLES` after an accepted packet is the new count modulo `CFG_N` (R108). -/
theorem Inv.pipeline_samples_toNat (h : Inv s) (hrun : s.runstate = .run) (hcnt : s.pktcnt ≠ 0xFFFFFFFF#32) :
    (pipeline (afterCount s)).samples.toNat = (s.pktcnt + 1).toNat % s.cfg.n.toNat := by
  obtain ⟨hsucc, hle, hmod⟩ := h.counts_succ hrun hcnt
  have hiff := h.completes_iff_mod_eq_zero hrun hcnt
  rw [pipeline_samples, afterCount_samples, afterCount_cfg]
  by_cases hn : s.samples + 1 = s.cfg.n
  · rw [if_pos hn, hiff.1 hn]
    rfl
  · have hne : s.samples.toNat + 1 ≠ s.cfg.n.toNat := fun heq => hn (BitVec.eq_of_toNat_eq (hsucc.trans heq))
    rw [if_neg hn, hsucc, hmod, Nat.mod_eq_of_lt (lt_of_le_of_ne hle hne)]

end Window

/-! ### One step -/

/-- What a `FRAME` among the outputs carries, given the frames accepted so far: `n = CFG_N` and the sum of the last `CFG_N`
of them. -/
def FrameCarries (c : CfgRegs) (frames : List Frame) (l : List Output) : Prop :=
  ∀ S n o m k, Output.frame S n o m k ∈ l →
    n = c.n ∧ n.toNat ≤ frames.length ∧ ∀ r c, (S.cell r c).toInt = sumOfNewest frames n.toNat r c

theorem NoFrame.frameCarries {l : List Output} (h : NoFrame l) (c : CfgRegs) (frames : List Frame) :
    FrameCarries c frames l :=
  fun S n o m k hmem => absurd hmem (h S n o m k)

/-- Whichever way the outputs of such a change are written, they contain no `FRAME`. -/
theorem KeepsWindow.noFrame {s t : State} {l : List Output} (h : KeepsWindow s t) (hout : t.outbox = s.outbox ++ l) :
    NoFrame l := by
  obtain ⟨-, -, -, l', hout', hno⟩ := h
  rw [List.append_cancel_left (hout.symm.trans hout')]
  exact hno

theorem FrameHistory.accepted_frameCarries {s : State} {frames : List Frame} {l : List Output}
    (h : FrameHistory frames s) (hinv : Inv s) (hrun : s.runstate = .run) (hcnt : s.pktcnt ≠ 0xFFFFFFFF#32)
    (hout : (pipeline (afterCount s)).outbox = s.outbox ++ l) :
    FrameCarries s.cfg (decodeFrame s.arrbuf :: frames) l := by
  intro S n o m k hmem
  obtain ⟨hfull, hframe⟩ := (frame_mem_pipeline_iff (s := afterCount s) hout S n o m k).1 hmem
  obtain ⟨rfl, rfl, -⟩ := Output.frame.inj hframe
  obtain ⟨hlen, hsum⟩ := h.completedFrame_carries hinv hrun hcnt hfull
  exact ⟨rfl, hlen, hsum⟩

/-- Every step keeps the history of the accepted frames, and what it emits carries the sum of the last `CFG_N` of them. -/
theorem step_keeps_frameHistory {s t : State} {l : List Output} {frames : List Frame} (hinv : Inv s)
    (hist : FrameHistory frames s) (h : step s = .next t) (hout : t.outbox = s.outbox ++ l) :
    FrameHistory (framesAfter s frames) t ∧ FrameCarries s.cfg (framesAfter s frames) l := by
  obtain ⟨hnil, rfl⟩ | ⟨e, rest, hin, hreact⟩ := step_next_reaction h
  · rw [framesAfter_of_inbox_nil hnil]
    exact ⟨hist, ((KeepsWindow.refl t).noFrame hout).frameCarries _ _⟩
  · obtain ⟨rfl, rfl⟩ | ⟨haccepts, rfl⟩ | ⟨he, hrefuses, hkeeps⟩ := hreact.window_cases
    · rw [framesAfter_of_reset hin]
      have hl : l = [] := List.self_eq_append_right.1 hout
      subst hl
      exact ⟨frameHistory_nil rfl rfl rfl, noFrame_nil.frameCarries _ _⟩
    · rw [framesAfter_of_accepts hin haccepts]
      obtain ⟨hrun, -, -, hcnt⟩ := haccepts
      exact ⟨FrameHistory.accepted (s := s.popInbox) hist hinv.popInbox hrun hcnt,
        FrameHistory.accepted_frameCarries (s := s.popInbox) hist hinv.popInbox hrun hcnt hout⟩
    · rw [framesAfter_of_not_accepts hin he hrefuses]
      exact ⟨FrameHistory.keepsWindow (s := s.popInbox) hist hkeeps, (hkeeps.noFrame hout).frameCarries _ _⟩

/-- On a matching checksum byte below the counter's maximum the step runs the pipeline on the counted packet (R93, R95). -/
theorem step_accepting {s t : State} (hrun : s.runstate = .run) (hphase : s.phase = .csum)
    (hhead : s.inbox.head? = some (.rx s.csumacc)) (hcnt : s.pktcnt ≠ 0xFFFFFFFF#32) (h : step s = .next t) :
    t = pipeline (afterCount s.popInbox) := by
  obtain ⟨hnil, -⟩ | ⟨e, rest, hin, hreact⟩ := step_next_reaction h
  · rw [hnil] at hhead
    cases hhead
  · rw [hin] at hhead
    have he : e = .rx s.csumacc := Option.some.inj hhead
    obtain ⟨rfl, -⟩ | ⟨-, ht⟩ | ⟨-, hrefuses, -⟩ := hreact.window_cases
    · cases he
    · exact ht
    · exact absurd ⟨hrun, hphase, he, hcnt⟩ hrefuses

/-- Settles O48: the window is complete exactly when the count is a multiple of `CFG_N`, and the history of the accepted
frames starts empty and is kept. -/
theorem frameExactlyEveryNPackets : Obligations.FrameExactlyEveryNPackets := by
  refine ⟨fun s t l hinv hrun hphase hhead hcnt h hout => ?_, fun es => frameHistory_nil rfl rfl rfl,
    fun s t l frames hinv hist h hout => step_keeps_frameHistory hinv hist h hout⟩
  obtain rfl := step_accepting hrun hphase hhead hcnt h
  have hmem := frame_mem_pipeline_iff (s := afterCount s.popInbox) hout
  refine ⟨?_, ?_⟩
  · rw [pipeline_pktcnt, afterCount_pktcnt, State.popInbox_pktcnt, ← hinv.completes_iff_mod_eq_zero hrun hcnt]
    constructor
    · rintro ⟨S, n, o, m, k, hin⟩
      obtain ⟨hfull, -⟩ := (hmem S n o m k).1 hin
      exact hfull
    · intro hfull
      exact ⟨_, _, _, _, _, (hmem _ _ _ _ _).2 ⟨hfull, rfl⟩⟩
  · rw [pipeline_pktcnt]
    exact hinv.popInbox.pipeline_samples_toNat hrun hcnt

end Sys2Proof.Machine
end

section
/-! THEOREMS. The two detectors (44_detectors.md): the measures as the Frobenius norms they stand for (R111, R113), their
widths (R118), the three operations (R112, R114, R115), and the hysteresis (R117). -/

namespace Sys2Proof

/-! ### Sums over the 64 cells -/

theorem sumCells_nonneg {f : Fin 8 → Fin 8 → Int} (h : ∀ r c, 0 ≤ f r c) : 0 ≤ sumCells f := by
  rw [sumCells_eq_sum]
  exact Finset.sum_nonneg fun r _ => Finset.sum_nonneg fun c _ => h r c

theorem sumCells_const (b : Int) : (sumCells fun _ _ => b) = 64 * b := by
  simp only [sumCells_eq_sum, Finset.sum_const, Finset.card_univ, Fintype.card_fin, nsmul_eq_mul]
  ring

/-- Sixty-four cells of at most `b` each. -/
theorem sumCells_le {f : Fin 8 → Fin 8 → Int} {b : Int} (h : ∀ r c, f r c ≤ b) : sumCells f ≤ 64 * b := by
  calc
    sumCells f = ∑ r, ∑ c, f r c := sumCells_eq_sum f
    _ ≤ ∑ _r : Fin 8, ∑ _c : Fin 8, b := Finset.sum_le_sum fun r _ => Finset.sum_le_sum fun c _ => h r c
    _ = 64 * b := (sumCells_eq_sum fun _ _ => b).symm.trans (sumCells_const b)

/-- A sum of squares vanishes only where every cell does. -/
theorem sumCells_sq_eq_zero_iff (f : Fin 8 → Fin 8 → Int) : (sumCells fun r c => f r c ^ 2) = 0 ↔ ∀ r c, f r c = 0 := by
  have hrow (r : Fin 8) : 0 ≤ ∑ c, f r c ^ 2 := Finset.sum_nonneg fun c _ => sq_nonneg _
  simp [sumCells_eq_sum, Finset.sum_eq_zero_iff_of_nonneg, hrow, sq_nonneg]

theorem cast_sumCells (f : Fin 8 → Fin 8 → Int) : ((sumCells f : Int) : ℝ) = ∑ r, ∑ c, (f r c : ℝ) := by
  rw [sumCells_eq_sum]
  push_cast
  rfl

/-! ### The values of an averaged frame over the reals (R107) -/

theorem Avg.cast_value (a : Avg) (r c : Fin 8) :
    (a.value r c : ℝ) = ((a.S.cell r c).toInt : ℝ) / (a.n.toNat : ℝ) := by
  rw [Avg.value]
  push_cast
  rfl

/-- The square of a Frobenius norm (R110). -/
theorem sq_sqrt_sum_sq (f : Fin 8 → Fin 8 → ℝ) : Real.sqrt (∑ r, ∑ c, f r c ^ 2) ^ 2 = ∑ r, ∑ c, f r c ^ 2 :=
  Real.sq_sqrt (Finset.sum_nonneg fun r _ => Finset.sum_nonneg fun c _ => sq_nonneg (f r c))

/-- `x > t` iff `x^2 > t^2` and `x < t` iff `x^2 < t^2` (R110), for a norm whose square is the quotient of two integers. -/
theorem norm_compare_iff {nu : ℝ} {Q k : Int} (hnu : 0 ≤ nu) (hk : 0 < k) (hsq : nu ^ 2 = (Q : ℝ) / (k : ℝ)) (t : Nat) :
    (nu > (t : ℝ) ↔ Q > k * (t : Int) ^ 2) ∧ (nu < (t : ℝ) ↔ Q < k * (t : Int) ^ 2) := by
  have hk' : (0 : ℝ) < k := Int.cast_pos.2 hk
  have ht : (0 : ℝ) ≤ t := t.cast_nonneg
  constructor
  · rw [gt_iff_lt, ← sq_lt_sq₀ ht hnu, hsq, lt_div_iff₀' hk']
    norm_cast
  · rw [← sq_lt_sq₀ hnu ht, hsq, div_lt_iff₀' hk']
    norm_cast

namespace Machine

/-! ### The occupancy measure (R111) -/

theorem qocc_eq_sum (g : SumGrid) :
    qocc g = 64 * (∑ r, ∑ c, (g.cell r c).toInt ^ 2) - (∑ r, ∑ c, (g.cell r c).toInt) ^ 2 := by
  rw [qocc, gridSquares, gridTotal, sumCells_eq_sum, sumCells_eq_sum]

/-- The deviation of a cell from the mean of all cells, times 64. -/
def deviation (g : SumGrid) (r c : Fin 8) : Int := 64 * (g.cell r c).toInt - gridTotal g

/-- `Σ (a − mean)^2 = Σ a^2 − (Σ a)^2 / 64` (R111), times `64^2`. -/
theorem sumCells_deviation_sq (g : SumGrid) : (sumCells fun r c => deviation g r c ^ 2) = 64 * qocc g := by
  have hexpand (r c : Fin 8) : deviation g r c ^ 2 =
      4096 * (g.cell r c).toInt ^ 2 - 128 * gridTotal g * (g.cell r c).toInt + gridTotal g ^ 2 := by
    rw [deviation]
    ring
  simp only [hexpand, sumCells_eq_sum, Finset.sum_add_distrib, Finset.sum_sub_distrib, ← Finset.mul_sum]
  rw [← sumCells_eq_sum fun _ _ => gridTotal g ^ 2, sumCells_const, qocc, gridSquares, sumCells_eq_sum,
    ← sumCells_eq_sum fun r c => (g.cell r c).toInt, ← gridTotal]
  ring

theorem qocc_nonneg (g : SumGrid) : 0 ≤ qocc g := by
  have hsum : 0 ≤ sumCells fun r c => deviation g r c ^ 2 := sumCells_nonneg fun r c => sq_nonneg _
  rw [sumCells_deviation_sq] at hsum
  omega

/-- The deviations vanish exactly when all cells are equal. -/
theorem deviation_eq_zero_iff (g : SumGrid) :
    (∀ r c, deviation g r c = 0) ↔ ∀ r c, g.cell r c = g.cell 0 0 := by
  constructor
  · intro hzero r c
    have hcell := hzero r c
    have hcorner := hzero 0 0
    simp only [deviation] at hcell hcorner
    exact BitVec.eq_of_toInt_eq (by omega)
  · intro hequal r c
    have htotal : gridTotal g = 64 * (g.cell 0 0).toInt := by simp only [gridTotal, hequal, sumCells_const]
    rw [deviation, hequal, htotal, sub_self]

/-- `QOCC` is 0 exactly when all cells are equal (R111). -/
theorem qocc_eq_zero_iff (g : SumGrid) : qocc g = 0 ↔ ∀ r c, g.cell r c = g.cell 0 0 := by
  rw [← deviation_eq_zero_iff, ← sumCells_sq_eq_zero_iff, sumCells_deviation_sq]
  omega

/-- `nu_occ^2 = QOCC / (64 n^2)` (R111). -/
theorem sum_sq_sub_mean (a : Avg) (hn : 1 ≤ a.n.toNat) :
    ∑ r, ∑ c, ((a.value r c : ℝ) - (∑ r, ∑ c, (a.value r c : ℝ)) / 64) ^ 2 =
      (qocc a.S : ℝ) / (64 * (a.n.toNat : ℝ) ^ 2) := by
  have hn0 : (a.n.toNat : ℝ) ≠ 0 := Nat.cast_ne_zero.2 (by omega)
  have htotal : ∑ r, ∑ c, (a.value r c : ℝ) = (gridTotal a.S : ℝ) / (a.n.toNat : ℝ) := by
    simp only [Avg.cast_value, gridTotal, cast_sumCells, Finset.sum_div]
  have hterm (r c : Fin 8) : ((a.value r c : ℝ) - (gridTotal a.S : ℝ) / (a.n.toNat : ℝ) / 64) ^ 2 =
      ((deviation a.S r c ^ 2 : Int) : ℝ) / (64 * (a.n.toNat : ℝ)) ^ 2 := by
    rw [Avg.cast_value, deviation]
    push_cast
    field_simp
  simp only [htotal, hterm, ← Finset.sum_div]
  rw [← cast_sumCells, sumCells_deviation_sq]
  push_cast
  field_simp

/-- Settles O51: the square of the norm, compared through squares; the zero of the measure from its deviations. -/
theorem occComparisonIsTheNorm : Obligations.OccComparisonIsTheNorm := by
  rintro a mean nu hn rfl rfl
  have hnu := (sq_sqrt_sum_sq _).trans (sum_sq_sub_mean a hn)
  have hpos : 0 < 64 * (a.n.toNat : Int) ^ 2 := by positivity
  exact ⟨hnu, fun t => norm_compare_iff (Real.sqrt_nonneg _) hpos (by exact_mod_cast hnu) t.toNat,
    qocc_nonneg a.S, qocc_eq_zero_iff a.S⟩

/-! ### The motion measure (R113) -/

theorem qmot_eq_sum (g p : SumGrid) : qmot g p = ∑ r, ∑ c, ((g.cell r c).toInt - (p.cell r c).toInt) ^ 2 :=
  sumCells_eq_sum _

theorem qmot_nonneg (g p : SumGrid) : 0 ≤ qmot g p := sumCells_nonneg fun _ _ => sq_nonneg _

/-- `nu_mot^2 = QMOT / n^2` (R113). -/
theorem sum_sq_sub_value {a b : Avg} (hb : b.n = a.n) :
    ∑ r, ∑ c, ((a.value r c : ℝ) - (b.value r c : ℝ)) ^ 2 = (qmot a.S b.S : ℝ) / (a.n.toNat : ℝ) ^ 2 := by
  have hterm (r c : Fin 8) : ((a.value r c : ℝ) - (b.value r c : ℝ)) ^ 2 =
      ((((a.S.cell r c).toInt - (b.S.cell r c).toInt) ^ 2 : Int) : ℝ) / (a.n.toNat : ℝ) ^ 2 := by
    rw [Avg.cast_value, Avg.cast_value, hb, ← sub_div, div_pow]
    push_cast
    rfl
  simp only [hterm, ← Finset.sum_div]
  rw [← cast_sumCells, qmot]

/-- Settles O52: the square of the norm, compared through squares. -/
theorem motComparisonIsTheNorm : Obligations.MotComparisonIsTheNorm := by
  rintro a b nu hn hb rfl
  have hnu := (sq_sqrt_sum_sq _).trans (sum_sq_sub_value hb)
  have hpos : 0 < (a.n.toNat : Int) ^ 2 := by positivity
  exact ⟨hnu, fun t => norm_compare_iff (Real.sqrt_nonneg _) hpos (by exact_mod_cast hnu) t.toNat⟩

/-! ### Widths (R118) -/

/-- A 32-bit cell read as two's complement. -/
theorem toInt_word_bounds (v : Word) : -2 ^ 31 ≤ v.toInt ∧ v.toInt < 2 ^ 31 := ⟨v.le_toInt, v.toInt_lt⟩

theorem sq_toInt_le (v : Word) : v.toInt ^ 2 ≤ 2 ^ 62 := by
  obtain ⟨hlow, hhigh⟩ := toInt_word_bounds v
  exact sq_le_sq' hlow hhigh.le

theorem sq_sub_toInt_le (v w : Word) : (v.toInt - w.toInt) ^ 2 ≤ 2 ^ 64 := by
  have hv := toInt_word_bounds v
  have hw := toInt_word_bounds w
  have hlow : -2 ^ 32 ≤ v.toInt - w.toInt := by omega
  have hhigh : v.toInt - w.toInt ≤ 2 ^ 32 := by omega
  exact sq_le_sq' hlow hhigh

theorem gridSquares_le (g : SumGrid) : gridSquares g ≤ 2 ^ 68 :=
  sumCells_le (b := 2 ^ 62) fun r c => sq_toInt_le (g.cell r c)

theorem qmot_le (g p : SumGrid) : qmot g p ≤ 2 ^ 70 :=
  sumCells_le (b := 2 ^ 64) fun r c => sq_sub_toInt_le (g.cell r c) (p.cell r c)

/-- By `QOCC >= 0`, that is by the Cauchy-Schwarz inequality. -/
theorem sq_gridTotal_le (g : SumGrid) : gridTotal g ^ 2 ≤ 64 * gridSquares g := by
  have h := qocc_nonneg g
  rw [qocc] at h
  omega

theorem occBound_eq (n t : Half) : occBound n t = 64 * motBound n t := by
  rw [occBound, motBound, mul_assoc]

theorem motBound_lt (n t : Half) : motBound n t < 2 ^ 64 := by
  have hprod : n.toNat * t.toNat < 2 ^ 16 * 2 ^ 16 := Nat.mul_lt_mul'' n.isLt t.isLt
  have hsq : (n.toNat * t.toNat) ^ 2 < (2 ^ 32) ^ 2 := Nat.pow_lt_pow_left hprod two_ne_zero
  rw [motBound, ← mul_pow]
  exact_mod_cast hsq

/-- Settles O56: the squares of the cells bound the total, both terms of `QOCC` and `QMOT`; 16-bit factors bound the
thresholds. -/
theorem measuresFitTheirWidths : Obligations.MeasuresFitTheirWidths := by
  intro g p n t
  have hsquares := gridSquares_le g
  have htotal := sq_gridTotal_le g
  have htotal' : gridTotal g ^ 2 ≤ (2 ^ 37) ^ 2 := by omega
  have hmot := motBound_lt n t
  refine ⟨abs_le_of_sq_le_sq htotal' (by norm_num), qocc_nonneg g, ?_, by omega, by omega, ?_, qmot_nonneg g p,
    qmot_le g p, hmot⟩
  · have hnonneg := sq_nonneg (gridTotal g)
    rw [qocc]
    omega
  · rw [occBound_eq]
    omega

/-! ### The two flip-flops (R112, R115) -/

/-- `OCC.UPD`'s three branches (R112). -/
theorem occNext_cases (c : CfgRegs) (a : Avg) (occ : Bool) :
    occNext c a occ =
      if qocc a.S > occBound a.n c.occEnter then true
      else if qocc a.S < occBound a.n c.occExit then false
      else occ := by
  simp only [occNext, schmitt_cases, decide_eq_true_eq, if_true]

/-- `MOT.UPD`'s branches (R115). -/
theorem motNext_cases (c : CfgRegs) (a : Avg) (prev : SumGrid) (occ mot : Bool) :
    motNext c a prev occ mot =
      if qmot a.S prev > motBound a.n c.motEnter then (if occ then true else mot)
      else if qmot a.S prev < motBound a.n c.motExit then false
      else mot := by
  simp only [motNext, schmitt_cases, decide_eq_true_eq]

/-- Settles O19: the new flag by its three branches, the measure written out. -/
theorem occUpdAppliesBothThresholds : Obligations.OccUpdAppliesBothThresholds := by
  rintro s a T Q rfl rfl
  rw [← qocc_eq_sum]
  have hexec : exec (.occUpd a) s = .next { s with occ := occNext s.cfg a s.occ } := rfl
  rw [hexec, occNext_cases, occBound, occBound]

/-- Settles O20: the operation's two writes; R37 item 7 gives the flag before it. -/
theorem motFirstRecordsTheFrame : Obligations.MotFirstRecordsTheFrame := by
  intro s a
  have hexec : exec (.motFirst a) s = .next { s with prev := a.S, prevvalid := true } := rfl
  refine ⟨hexec, fun hrecorded hfirst => ?_⟩
  have hmot : s.mot = false :=
    Bool.eq_false_iff.2 fun hset => Bool.false_ne_true (hfirst.symm.trans (hrecorded hset))
  exact ⟨_, hexec, hmot, hmot⟩

/-- Settles O21: the new flag by its branches, the measure written out. -/
theorem motUpdGatesEntryOnly : Obligations.MotUpdGatesEntryOnly := by
  rintro s a Q rfl
  rw [← qmot_eq_sum]
  have hexec : exec (.motUpd a) s =
      .next { s with mot := motNext s.cfg a s.prev s.occ s.mot, prev := a.S } := rfl
  rw [hexec, motNext_cases, motBound, motBound]

/-! ### Hysteresis (R117) -/

/-- A flag rises only above the enter threshold, and only where entry is allowed (R117 (a)). -/
theorem of_schmitt_rises {above below entry : Bool} (h : schmitt above below entry false = true) :
    above = true ∧ entry = true := by
  cases above with
  | true => cases entry with
    | true => exact ⟨rfl, rfl⟩
    | false => cases h
  | false => cases below <;> cases h

/-- A flag falls only below the exit threshold (R117 (a)). -/
theorem of_schmitt_falls {above below entry : Bool} (h : schmitt above below entry true = false) : below = true := by
  cases above with
  | true => cases entry <;> cases h
  | false => cases below with
    | true => rfl
    | false => cases h

/-- A frame within the dead band leaves `OCC` (R117 (b)). -/
theorem occNext_of_band {c : CfgRegs} {a : Avg} (hexit : occBound a.n c.occExit ≤ qocc a.S)
    (henter : qocc a.S ≤ occBound a.n c.occEnter) (occ : Bool) : occNext c a occ = occ := by
  rw [occNext_cases, if_neg henter.not_gt, if_neg hexit.not_gt]

/-- A frame within the dead band leaves `MOT`, whatever `OCC` is (R117 (b)). -/
theorem motNext_of_band {c : CfgRegs} {a : Avg} {prev : SumGrid} (hexit : motBound a.n c.motExit ≤ qmot a.S prev)
    (henter : qmot a.S prev ≤ motBound a.n c.motEnter) (occ mot : Bool) : motNext c a prev occ mot = mot := by
  rw [motNext_cases, if_neg henter.not_gt, if_neg hexit.not_gt]

/-- A sequence of frames within the dead band leaves `OCC` (R117 (b)). -/
theorem foldl_occNext_of_band {c : CfgRegs} {band : List Avg}
    (h : ∀ b ∈ band, occBound b.n c.occExit ≤ qocc b.S ∧ qocc b.S ≤ occBound b.n c.occEnter) (flag : Bool) :
    band.foldl (fun f b => occNext c b f) flag = flag := by
  induction band with
  | nil => rfl
  | cons b band ih =>
    obtain ⟨⟨hexit, henter⟩, hband⟩ := List.forall_mem_cons.1 h
    rw [List.foldl_cons, occNext_of_band hexit henter]
    exact ih hband

/-- `MOT.UPD` on a sequence of frames, each within the dead band of the one before it, leaves `MOT`; `PREV` follows the
frames (R115 (e), R117 (b)). -/
theorem feedMotion_of_band (steps : List (Bool × Avg)) (s : State)
    (h : InMotionBand s.cfg s.prev (steps.map Prod.snd)) :
    ∃ t, feedMotion steps s = .next t ∧ t.mot = s.mot ∧
      t.prev = ((steps.map fun x => x.2.S).getLast?).getD s.prev := by
  induction steps generalizing s with
  | nil => exact ⟨s, rfl, rfl, rfl⟩
  | cons x rest ih =>
    obtain ⟨occ, a⟩ := x
    obtain ⟨hexit, henter, hrest⟩ := h
    rw [feedMotion_cons, motNext_of_band hexit henter, List.map_cons, List.getLast?_cons]
    exact ih { s with occ := occ, prev := a.S } hrest

/-- Settles O53: the flip-flop's branches for one frame, and the dead band along a sequence. -/
theorem hysteresisHasNoChatter : Obligations.HysteresisHasNoChatter := by
  intro c p occ flag a band
  refine ⟨fun hrise => ?_, fun hfall => of_decide_eq_true (of_schmitt_falls hfall), fun hrise => ?_,
    fun hfall => of_decide_eq_true (of_schmitt_falls hfall), fun hband => foldl_occNext_of_band hband flag,
    fun s steps => feedMotion_of_band steps s⟩
  · obtain ⟨habove, -⟩ := of_schmitt_rises hrise
    exact of_decide_eq_true habove
  · obtain ⟨habove, hentry⟩ := of_schmitt_rises hrise
    exact ⟨of_decide_eq_true habove, hentry⟩

end Machine

end Sys2Proof
end

section
/-! THEOREMS. The Controller (45_controller.md): the two halves of `PIPE.RUN` (R120), the callbacks and the iteration's end
(R125 to R127), the host's operations (R121 to R124), and the transitions of the run state (R128). -/

namespace Sys2Proof.Machine

/-! ### The transitions of the run state (R128) -/

/-- From `s` to `t` an iteration ended (R127): it was counted if a limit is set, and at the limit the run was stopped, with
`TX(STOP_CMD)` last. -/
structure EndsIteration (s t : State) : Prop where
  runstate : t.runstate = if lastIteration s then .stopped else s.runstate
  itercnt : t.itercnt = if s.cfg.iterLimit = 0 then s.itercnt else s.itercnt + 1
  reports : ∃ report, t.outbox = s.outbox ++ (report ++ if lastIteration s then [.tx s.params.stopCmd] else [])

theorem endsIteration_afterIteration (s : State) (report : List Output) : EndsIteration s (afterIteration s report) :=
  ⟨rfl, rfl, report, List.append_assoc ..⟩

/-- What a packet did to the window and to the detectors before has no part in the iteration's end. -/
theorem EndsIteration.of_detected {s t : State} {sum prev : SumGrid} {samples : Half} {prevvalid occ mot : Bool}
    {y : Yield}
    (h : EndsIteration { s with sum := sum, samples := samples, prevvalid := prevvalid, prev := prev, occ := occ,
                                mot := mot, yielded := y } t) : EndsIteration s t :=
  ⟨h.runstate, h.itercnt, h.reports⟩

/-- `PIPE.RUN` ends the iteration, whether or not the window is complete (R120). -/
theorem endsIteration_pipeline (s : State) : EndsIteration s (pipeline s) := by
  by_cases hn : s.samples + 1 = s.cfg.n
  · rw [pipeline_complete s hn]
    exact (endsIteration_afterIteration (windowCompleted s) _).of_detected
  · rw [pipeline_incomplete s hn]
    exact (endsIteration_afterIteration (windowGrown s) _).of_detected

/-- An iteration's end changes the run state at the limit only (R127). -/
theorem EndsIteration.stops_at_limit {s t : State} {l : List Output} (h : EndsIteration s t)
    (hne : t.runstate ≠ s.runstate) (hout : t.outbox = s.outbox ++ l) :
    s.cfg.iterLimit ≠ 0 ∧ t.itercnt = s.cfg.iterLimit ∧ t.runstate = .stopped ∧
      ∃ pre, l = pre ++ [.tx s.params.stopCmd] := by
  obtain ⟨hrunstate, hitercnt, report, hreport⟩ := h
  have hlast : lastIteration s = true := by
    by_contra hlast
    exact hne (hrunstate.trans (if_neg hlast))
  obtain ⟨hlimit, hreached⟩ : s.cfg.iterLimit ≠ 0 ∧ s.itercnt + 1 = s.cfg.iterLimit := by
    simpa [lastIteration] using hlast
  rw [if_pos hlast] at hrunstate hreport
  rw [if_neg hlimit, hreached] at hitercnt
  exact ⟨hlimit, hitercnt, hrunstate, report, List.append_cancel_left (hout.symm.trans hreport)⟩

/-- Settles O44: by the outcomes of a step; those that end an iteration change the run state at the limit only. -/
theorem runStateChangesOnlyAsListed : Obligations.RunStateChangesOnlyAsListed := by
  intro s t e rest l hin hstep hout hne
  have hreact := (step_eq_next_iff hin).1 hstep
  have emitted {o : List Output} (h : s.outbox ++ o = s.outbox ++ l) : l = o := (List.append_cancel_left h).symm
  cases hreact with
  | reset => exact .inl ⟨rfl, rfl, List.self_eq_append_right.1 hout⟩
  | started hidle hcfg => exact .inr (.inl ⟨hidle, rfl, hcfg, rfl, emitted hout⟩)
  | stopped hrun => exact .inr (.inr (.inl ⟨hrun, rfl, rfl, emitted hout⟩))
  | windowExhausted b hrun | notConfirmed b hrun | rejected b hrun =>
    exact .inr (.inr (.inr (.inl ⟨hrun, ⟨b, rfl⟩, (endsIteration_afterIteration s.popInbox _).stops_at_limit hne hout⟩)))
  | accepted hrun =>
    have hends := endsIteration_pipeline (afterCount s.popInbox)
    exact .inr (.inr (.inr (.inl ⟨hrun, ⟨_, rfl⟩, hends.stops_at_limit hne hout⟩)))
  | linkFailed x hrun =>
    cases x with
    | true => exact .inr (.inr (.inr (.inr (.inl ⟨hrun, rfl, rfl, emitted hout⟩))))
    | false => exact .inr (.inr (.inr (.inr (.inr (.inl ⟨hrun, rfl, rfl, emitted hout⟩)))))
  | overflowed hrun hphase hfidx hcnt =>
    exact .inr (.inr (.inr (.inr (.inr (.inr ⟨hrun, rfl, hphase, hcnt, rfl, emitted hout⟩)))))
  | ignored | configured | startRefused | skipped | firstSeen | compared | synchronized | thermRead | arrayRead =>
    exact absurd rfl hne

/-! ### `PIPE.RUN` (R120) -/

/-- Where the pipeline is ready `PIPE.RUN` runs to completion (R120). -/
theorem exec_pipeRun_of_ready {s : State} (hready : PipelineReady s) : exec .pipeRun s = .next (pipeline s) :=
  (runPipeline_eq_next_iff s _).2 ⟨hready, rfl⟩

/-- Settles O14: below `CFG_N` the window is not complete. -/
theorem pipeRunInsideTheWindow : Obligations.PipeRunInsideTheWindow := by
  intro s hready hlt
  have hn : s.samples + 1 ≠ s.cfg.n := by bv_omega
  rw [exec_pipeRun_of_ready hready, pipeline_incomplete s hn, windowGrown]

/-- Settles O15: at `CFG_N` the window is complete. -/
theorem pipeRunCompletesTheWindow : Obligations.PipeRunCompletesTheWindow := by
  intro s a occ mot hready hfull ha hocc hmot
  have hn : s.samples + 1 = s.cfg.n := by bv_omega
  have havg : a = completedAvg s := ha
  have hoccAfter : occ = occAfter s := by rw [hocc, havg, occAfter]
  have hmotAfter : mot = motAfter s := by rw [hmot, havg, hoccAfter, motAfter]
  rw [exec_pipeRun_of_ready hready, pipeline_complete s hn, hmotAfter, hoccAfter, havg]
  rfl

/-! ### The callbacks and the end of an iteration (R125 to R127) -/

/-- Settles O22: the operation is its one output. -/
theorem frameOutEmitsTheCallback : Obligations.FrameOutEmitsTheCallback := fun _ _ => rfl

/-- Membership in the trigger set, slot by slot (10_state.md R26). -/
theorem inTrigSet_iff (c : CfgRegs) (cnt : Word) :
    inTrigSet c cnt = true ↔ ∃ i : Fin 8, c.trig[i.val].valid = true ∧ c.trig[i.val].count = cnt := by
  simp only [inTrigSet, List.any_eq_true, Vector.mem_toList_iff, Vector.mem_iff_getElem, Bool.and_eq_true, beq_iff_eq]
  constructor
  · rintro ⟨_, ⟨i, hi, rfl⟩, hslot⟩
    exact ⟨⟨i, hi⟩, hslot⟩
  · rintro ⟨i, hslot⟩
    exact ⟨_, ⟨i.val, i.isLt, rfl⟩, hslot⟩

/-- Settles O23: by membership of the count in the trigger set. -/
theorem trigChkFiresOncePerMatch : Obligations.TrigChkFiresOncePerMatch := by
  refine fun s => ⟨fun hmatch => ?_, fun hnone => ?_⟩
  · exact congrArg Host.Outcome.next (if_pos ((inTrigSet_iff s.cfg s.pktcnt).2 hmatch))
  · refine congrArg Host.Outcome.next (if_neg fun hmem => ?_)
    obtain ⟨i, hvalid, hcount⟩ := (inTrigSet_iff s.cfg s.pktcnt).1 hmem
    exact hnone i hvalid hcount

/-- Settles O24: the closed form of the iteration's end, with nothing reported before it. -/
theorem iterEndRewindsAndCounts : Obligations.IterEndRewindsAndCounts := by
  intro s
  rw [← iterEnd_after, List.append_nil]
  rfl

/-! ### The host's operations (R121 to R124) -/

/-- The three conditions of a legal configuration (10_state.md R23). -/
theorem cfgLegal_iff (c : CfgRegs) :
    cfgLegal c = true ↔
      1 ≤ c.n.toNat ∧ c.occExit.toNat ≤ c.occEnter.toNat ∧ c.motExit.toNat ≤ c.motEnter.toNat := by
  simp only [cfgLegal, Bool.and_eq_true, decide_eq_true_eq, and_assoc]

/-- The three ways in which a configuration is illegal (10_state.md R23). -/
theorem cfgLegal_eq_false_iff (c : CfgRegs) :
    cfgLegal c = false ↔
      c.n = 0 ∨ c.occEnter.toNat < c.occExit.toNat ∨ c.motEnter.toNat < c.motExit.toNat := by
  have hn : ¬ 1 ≤ c.n.toNat ↔ c.n = 0 := by bv_omega
  rw [← Bool.not_eq_true, cfgLegal_iff, not_and_or, not_and_or, hn, not_le, not_le]

/-- Settles O25: the start's three outcomes. -/
theorem cmdStartBeginsALegalRun : Obligations.CmdStartBeginsALegalRun :=
  fun s =>
    ⟨rfl, fun hidle hn hocc hmot => (Reaction.started hidle ((cfgLegal_iff s.cfg).2 ⟨hn, hocc, hmot⟩)).exec_eq rfl,
      fun hidle hbad => (Reaction.startRefused hidle ((cfgLegal_eq_false_iff s.cfg).2 hbad)).exec_eq rfl,
      fun hidle => (Reaction.ignored hidle : Reaction s .start s).exec_eq rfl⟩

/-- Settles O26: the stop's two outcomes. -/
theorem cmdStopEndsTheRun : Obligations.CmdStopEndsTheRun :=
  fun s =>
    ⟨rfl, fun hrun => (Reaction.stopped hrun).exec_eq rfl,
      fun hrun => (Reaction.ignored hrun : Reaction s .stop s).exec_eq rfl⟩

/-- Settles O27: a write's two outcomes, the stored one for each of the seven registers. -/
theorem cfgWrStoresInIdleOnly : Obligations.CfgWrStoresInIdleOnly := by
  refine ⟨fun s w => ⟨rfl, fun hidle => (Reaction.ignored hidle : Reaction s (.cfgWr w) s).exec_eq rfl⟩,
    fun s v w i b hidle => ?_⟩
  have stored (x : CfgWrite) : exec (selectCfgWr x) s = .next { s with cfg := writeCfg s.cfg x } :=
    (Reaction.configured x hidle).exec_eq rfl
  exact ⟨stored (.n v), stored (.occEnter v), stored (.occExit v), stored (.motEnter v), stored (.motExit v),
    stored (.iterLimit w), stored (.trig i b w)⟩

/-- Settles O28: the row of `RX.DROP`, which writes nothing. -/
theorem rxDropLosesTheByte : Obligations.RxDropLosesTheByte :=
  fun s b hrun => ⟨select_of_selectedAt (by simp [Instr.selectedAt, State.seq, hrun]) rfl, rfl⟩

end Sys2Proof.Machine
end

section
/-! THEOREMS. Errors and coincidence (60_exceptions.md): what entering each error emits and changes (R143 to R148), the order
of the outputs of one step (R151), and the order in which coinciding events are processed (R152). -/

namespace Sys2Proof.Machine

/-! ### Entering an error (R143 to R148) -/

/-- `CounterOverflow` tells the device to stop and halts (R147). -/
theorem raise_counterOverflow (s : State) :
    raise .counterOverflow s =
      { s with runstate := .halted, outbox := s.outbox ++ [.err 5 0, .tx s.params.stopCmd] } :=
  raise_fatal .counterOverflow s (.inr rfl)

/-- `LINK.FAIL` is the entry of `LinkFailure` in `RUN` and has no function elsewhere (R146). -/
theorem exec_linkFail (x : Bool) (s : State) :
    exec (.linkFail x) s = .next (if s.runstate = .run then raise (.linkFailure x) s else s) := by
  by_cases hrun : s.runstate = .run
  · rw [if_pos hrun, raise_linkFailure]
    exact (Reaction.linkFailed x hrun).exec_eq rfl
  · rw [if_neg hrun]
    exact (Reaction.ignored hrun : Reaction s (.linkFail x) s).exec_eq rfl

/-- Settles O30: the reaction to `LINKFAIL` in `RUN`, for both values of `tx_avail`, and its being ignored elsewhere. -/
theorem linkFailHaltsTheRun : Obligations.LinkFailHaltsTheRun := by
  refine fun s => ⟨fun hrun => ⟨?_, ?_⟩, fun x => ⟨rfl, fun hrun => ?_⟩⟩
  · exact (Reaction.linkFailed true hrun).exec_eq rfl
  · exact (Reaction.linkFailed false hrun).exec_eq rfl
  · rw [exec_linkFail, if_neg hrun]

/-- Settles O33: the recoverable errors end the iteration, the fatal ones halt, and `ConfigInvalid` only reports. -/
theorem enteringAnErrorReportsIt : Obligations.EnteringAnErrorReportsIt := by
  refine fun s received computed =>
    ⟨raise_recoverable .syncWindow s (.inl rfl), raise_recoverable .syncConfirm s (.inl rfl),
      raise_recoverable (.checksumError received computed) s (.inr rfl), raise_counterOverflow s,
      raise_configInvalid s, fun x => ⟨?_, rfl, exec_linkFail x s⟩⟩
  rw [raise_linkFailure, List.append_assoc, List.singleton_append]

/-! ### The order of one step's outputs (R151) -/

/-- The events are in the order `ERR`, `FRAME`, `TRIG`, `TX`, each at most once. -/
def InOutputOrder (l : List Output) : Prop := l.Pairwise fun a b => outputRank a < outputRank b

/-- From `s` to `t` events were emitted, if any, in the order of R151. -/
def EmitsInOrder (s t : State) : Prop := ∃ l, t.outbox = s.outbox ++ l ∧ InOutputOrder l

/-- A report and the `TX(STOP_CMD)` after it (R146, R147, and R144, R145 at the iteration limit). -/
theorem inOutputOrder_err_tx (code : BitVec 3) (info : Half) (b : Byte) : InOutputOrder [.err code info, .tx b] :=
  List.pairwise_pair.2 (Nat.succ_pos 2)

/-- What the pipeline can report is in order, with the `TX(STOP_CMD)` of the iteration limit last (R120). -/
theorem inOutputOrder_frame_trig_tx (s : State) (c : CfgRegs) (cnt : Word) (b : Byte) :
    InOutputOrder (completedFrame s :: triggerReport c cnt ++ [.tx b]) := by
  unfold triggerReport
  split <;> simp [InOutputOrder, completedFrame, outputRank]

theorem EmitsInOrder.of_outbox_eq {s t : State} (h : t.outbox = s.outbox) : EmitsInOrder s t :=
  ⟨[], by rw [h, List.append_nil], .nil⟩

theorem emitsInOrder_single {s t : State} {o : Output} (h : t.outbox = s.outbox ++ [o]) : EmitsInOrder s t :=
  ⟨[o], h, List.pairwise_singleton ..⟩

/-- An iteration's end keeps the order: its `TX(STOP_CMD)`, if the limit is reached, comes last (R127). -/
theorem emitsInOrder_afterIteration {s t : State} {report : List Output} (hout : t.outbox = s.outbox)
    (h : InOutputOrder (report ++ [.tx t.params.stopCmd])) : EmitsInOrder s (afterIteration t report) := by
  rw [EmitsInOrder, ← hout]
  refine ⟨_, List.append_assoc .., ?_⟩
  split
  · exact h
  · rw [List.append_nil]
    exact h.sublist (List.sublist_append_left ..)

/-- `PIPE.RUN` emits `FRAME`, `TRIG`, `TX(STOP_CMD)` in this order, each where its condition holds (R120). -/
theorem emitsInOrder_pipeline (s : State) : EmitsInOrder s (pipeline s) := by
  by_cases hn : s.samples + 1 = s.cfg.n
  · rw [pipeline_complete s hn]
    exact emitsInOrder_afterIteration (by rw [windowCompleted]) (inOutputOrder_frame_trig_tx ..)
  · rw [pipeline_incomplete s hn]
    exact emitsInOrder_afterIteration (by rw [windowGrown]) (inOutputOrder_frame_trig_tx s ..).of_cons

/-- Every reaction emits its events in the order of R151. -/
theorem Reaction.emitsInOrder {s t : State} {e : Event} (h : Reaction s e t) : EmitsInOrder s t := by
  cases h with
  | ignored | reset | configured | skipped | firstSeen | compared | synchronized | thermRead | arrayRead =>
    exact .of_outbox_eq rfl
  | startRefused | started | stopped => exact emitsInOrder_single rfl
  | linkFailed x =>
    cases x with
    | true => exact ⟨_, rfl, inOutputOrder_err_tx ..⟩
    | false => exact emitsInOrder_single rfl
  | overflowed => exact ⟨_, rfl, inOutputOrder_err_tx ..⟩
  | windowExhausted | notConfirmed | rejected => exact emitsInOrder_afterIteration rfl (inOutputOrder_err_tx ..)
  | accepted => exact emitsInOrder_pipeline (afterCount s)

/-- Settles O43: a step does nothing or is a reaction. -/
theorem outputsOfOneStepAreOrdered : Obligations.OutputsOfOneStepAreOrdered := by
  intro s t h
  obtain ⟨-, rfl⟩ | ⟨e, rest, -, hreact⟩ := step_next_reaction h
  · exact EmitsInOrder.of_outbox_eq rfl
  · exact hreact.emitsInOrder

/-! ### Coinciding events (R152) -/

/-- The events are in the order of their priority, the highest first. -/
def ByPriority (es : List Event) : Prop := es.Pairwise fun a b => eventPriority a ≤ eventPriority b

/-- The events of priority `k`, in the order in which they stand. -/
def ofPriority (k : Nat) (es : List Event) : List Event := es.filter fun e => eventPriority e == k

theorem ofPriority_append (k : Nat) (es fs : List Event) :
    ofPriority k (es ++ fs) = ofPriority k es ++ ofPriority k fs := List.filter_append ..

theorem ofPriority_cons (k : Nat) (e : Event) (es : List Event) :
    ofPriority k (e :: es) = ofPriority k [e] ++ ofPriority k es := ofPriority_append k [e] es

theorem ofPriority_eq_nil_iff {k : Nat} {es : List Event} :
    ofPriority k es = [] ↔ ∀ e ∈ es, eventPriority e ≠ k := by
  simp only [ofPriority, List.filter_eq_nil_iff, beq_iff_eq, ne_eq]

theorem mem_insertEvent {e f : Event} {es : List Event} : f ∈ insertEvent e es ↔ f = e ∨ f ∈ es := by
  induction es with
  | nil => simp [insertEvent]
  | cons g gs ih =>
    unfold insertEvent
    split
    · rw [List.mem_cons, ih, List.mem_cons, or_left_comm]
    · rw [List.mem_cons]

/-- What comes before the first of an ordered list comes before all of it. -/
theorem ByPriority.lt_of_lt_head {e f g : Event} {fs : List Event} (h : ByPriority (f :: fs))
    (hlt : eventPriority e < eventPriority f) (hg : g ∈ f :: fs) : eventPriority e < eventPriority g := by
  obtain ⟨hhead, -⟩ := List.pairwise_cons.1 h
  obtain rfl | hg := List.mem_cons.1 hg
  · exact hlt
  · exact hlt.trans_le (hhead g hg)

/-- Inserting an event keeps the order of priority. -/
theorem byPriority_insertEvent {es : List Event} (h : ByPriority es) (e : Event) : ByPriority (insertEvent e es) := by
  induction es with
  | nil => exact List.pairwise_singleton ..
  | cons f fs ih =>
    obtain ⟨hhead, htail⟩ := List.pairwise_cons.1 h
    unfold insertEvent
    split
    next hle =>
      refine List.pairwise_cons.2 ⟨fun g hg => ?_, ih htail⟩
      obtain rfl | hg := mem_insertEvent.1 hg
      · exact hle
      · exact hhead g hg
    next hlt => exact List.pairwise_cons.2 ⟨fun g hg => (h.lt_of_lt_head (not_le.1 hlt) hg).le, h⟩

/-- An event is inserted behind all those of its own priority (log 13). -/
theorem ofPriority_insertEvent {es : List Event} (h : ByPriority es) (e : Event) (k : Nat) :
    ofPriority k (insertEvent e es) = ofPriority k (es ++ [e]) := by
  induction es with
  | nil => rfl
  | cons f fs ih =>
    obtain ⟨-, htail⟩ := List.pairwise_cons.1 h
    unfold insertEvent
    split
    next => rw [ofPriority_cons, ih htail, List.cons_append, ← ofPriority_cons]
    next hlt =>
      rw [ofPriority_cons, ofPriority_append]
      by_cases hk : eventPriority e = k
      · have hnone : ofPriority k (f :: fs) = [] :=
          ofPriority_eq_nil_iff.2 fun g hg => (hk ▸ h.lt_of_lt_head (not_le.1 hlt) hg).ne'
        rw [hnone, List.append_nil, List.nil_append]
      · have hnone : ofPriority k [e] = [] := ofPriority_eq_nil_iff.2 (List.forall_mem_singleton.2 hk)
        rw [hnone, List.append_nil, List.nil_append]

/-- The last event given is inserted among the others. -/
theorem serialise_concat (es : List Event) (e : Event) : serialise (es ++ [e]) = insertEvent e (serialise es) :=
  List.foldl_concat ..

theorem byPriority_serialise (es : List Event) : ByPriority (serialise es) := by
  induction es using List.reverseRecOn with
  | nil => exact .nil
  | append_singleton es e ih =>
    rw [serialise_concat]
    exact byPriority_insertEvent ih e

theorem ofPriority_serialise (es : List Event) (k : Nat) : ofPriority k (serialise es) = ofPriority k es := by
  induction es using List.reverseRecOn with
  | nil => rfl
  | append_singleton es e ih =>
    rw [serialise_concat, ofPriority_insertEvent (byPriority_serialise es), ofPriority_append, ofPriority_append, ih]

/-- Settles O50: the order of priority, and the events of each priority, are kept by each insertion. -/
theorem coincidingEventsAreSerialised : Obligations.CoincidingEventsAreSerialised :=
  fun es => ⟨byPriority_serialise es, ofPriority_serialise es⟩

end Sys2Proof.Machine
end

section
/-! THEOREMS. Reset and the end of a run (70_reset_and_hazards.md): `RESET` restores the table of 10_state.md R36 (R160), and
a run that is over answers to nothing else (R171). -/

namespace Sys2Proof.Machine

/-- Settles O29: R65 has one row for the event, and the reaction's state is `State.reset` under the environment's fields. -/
theorem resetRestoresTheTable : Obligations.ResetRestoresTheTable :=
  fun _ => ⟨rfl, Reaction.reset.exec_eq rfl⟩

/-- In a run that is over no event but `RESET` has a function: each other one acts in `IDLE` only, or in `RUN` only (R171). -/
theorem ignores_of_run_over {s : State} {e : Event} (hover : s.runstate = .stopped ∨ s.runstate = .halted)
    (he : e ≠ .reset) : Ignores s e := by
  have hidle : s.runstate ≠ .idle := by rcases hover with h | h <;> simp [h]
  have hrun : s.runstate ≠ .run := by rcases hover with h | h <;> simp [h]
  cases e with
  | reset => exact absurd rfl he
  | cfgWr | start => exact hidle
  | stop | linkFail | rx => exact hrun

/-- Settles O45: the event is consumed and ignored. -/
theorem anEndedRunStaysAsItIs : Obligations.AnEndedRunStaysAsItIs :=
  fun _ _ _ hover hin he => step_of_reaction hin (.ignored (ignores_of_run_over hover he))

end Sys2Proof.Machine
end
